-- ==== Sys2Proof/Word.lean ====
section
/-! DEFINITION. The word types of the IMU link block (00_scope.md R9). -/

namespace Sys2Proof

/-- `u8`: a byte of a stream, a frame or a command (R9). -/
abbrev Byte := BitVec 8

/-- `u16`: a 16-bit field of a frame (R9). -/
abbrev Half := BitVec 16

/-- `u32`: an operand, a time in ms, a result word, or the 32 bits of a binary32 value (R9). -/
abbrev Word := BitVec 32

end Sys2Proof
end

