-- ==== Sys2Proof/Syntax.lean ====
section
/-! DEFINITION. The instructions: one constructor per row of spec/opcode_table.json, in the table's order. -/

namespace Sys2Proof

/-- The three formats of 30_encoding.md R90. -/
inductive Format where
  /-- HOSTCMD: host to block, on HOST (R100). -/
  | hostcmd
  /-- FRAME11: sensor module to block, on RX inside FEED (R91). -/
  | frame11
  /-- CMD5: block to sensor module, on TX (R95). -/
  | cmd5
deriving DecidableEq, Repr

/-- The block's instructions. HOSTCMD operands are those of R100 and R101, a FRAME11's the tag, the four 16-bit fields
`f_0 .. f_3` of R94 and the checksum byte, a CMD5's the address and the 16-bit data of R95. -/
inductive Instr where
  /-- `CREATE TP, TIMEOUT` (R260). -/
  | create (tp : Byte) (timeout : Word)
  /-- `ENABLE FLAG` (R261). -/
  | enable (flag : Byte)
  /-- `FEED LEN, DATA` (R130). -/
  | feed (data : List Byte)
  /-- `GET SEL` (R262). -/
  | get (sel : Byte)
  /-- `STATUS SEL` (R264). -/
  | status (sel : Byte)
  /-- `WDT_INIT TIMEOUT` (R230). -/
  | wdtInit (timeout : Word)
  /-- `WDT_ENABLE FLAG` (R231). -/
  | wdtEnable (flag : Byte)
  /-- `WDT_CHECK` (R232). -/
  | wdtCheck
  /-- `SET_BAUD CODE` (R194). -/
  | setBaud (code : Word)
  /-- `SET_RATE CODE` (R195). -/
  | setRate (code : Word)
  /-- `SET_CONTENT MASK` (R196). -/
  | setContent (mask : Word)
  /-- `SET_BANDWIDTH CODE` (R197). -/
  | setBandwidth (code : Word)
  /-- `ACC_CAL_START` (R198). -/
  | accCalStart
  /-- `ACC_CAL_STOP` (R199). -/
  | accCalStop
  /-- `MAG_CAL_START` (R200). -/
  | magCalStart
  /-- `MAG_CAL_STOP` (R201). -/
  | magCalStop
  /-- `MANUAL_CAL_ENTER` (R202). -/
  | manualCalEnter
  /-- `MANUAL_CAL_EXIT` (R203). -/
  | manualCalExit
  /-- `ZERO_YAW` (R204). -/
  | zeroYaw
  /-- `READ_REG ADDR` (R205). -/
  | readReg (addr : Word)
  /-- `FRAME_ACC`, tag `0x51` (R164). -/
  | frameAcc (f0 f1 f2 f3 : Half) (sum : Byte)
  /-- `FRAME_GYRO`, tag `0x52` (R165). -/
  | frameGyro (f0 f1 f2 f3 : Half) (sum : Byte)
  /-- `FRAME_ANGLE`, tag `0x53` (R166). -/
  | frameAngle (f0 f1 f2 f3 : Half) (sum : Byte)
  /-- `FRAME_MAG`, tag `0x54` (R167). -/
  | frameMag (f0 f1 f2 f3 : Half) (sum : Byte)
  /-- `FRAME_OTHER`, any other tag (R168). -/
  | frameOther (tag : Byte) (f0 f1 f2 f3 : Half) (sum : Byte)
  /-- `CMD_UNLOCK` (R96). -/
  | cmdUnlock
  /-- `CMD_SAVE` (R97). -/
  | cmdSave
  /-- `CMD_READREQ` (R98). -/
  | cmdReadReq (addr : Byte)
  /-- `CMD_WRITE` (R95). -/
  | cmdWrite (addr : Byte) (data : Half)
deriving DecidableEq, Repr

/-- The format each row of the table has (R90). -/
def Instr.format : Instr → Format
  | .create _ _ => .hostcmd
  | .enable _ => .hostcmd
  | .feed _ => .hostcmd
  | .get _ => .hostcmd
  | .status _ => .hostcmd
  | .wdtInit _ => .hostcmd
  | .wdtEnable _ => .hostcmd
  | .wdtCheck => .hostcmd
  | .setBaud _ => .hostcmd
  | .setRate _ => .hostcmd
  | .setContent _ => .hostcmd
  | .setBandwidth _ => .hostcmd
  | .accCalStart => .hostcmd
  | .accCalStop => .hostcmd
  | .magCalStart => .hostcmd
  | .magCalStop => .hostcmd
  | .manualCalEnter => .hostcmd
  | .manualCalExit => .hostcmd
  | .zeroYaw => .hostcmd
  | .readReg _ => .hostcmd
  | .frameAcc _ _ _ _ _ => .frame11
  | .frameGyro _ _ _ _ _ => .frame11
  | .frameAngle _ _ _ _ _ => .frame11
  | .frameMag _ _ _ _ _ => .frame11
  | .frameOther _ _ _ _ _ _ => .frame11
  | .cmdUnlock => .cmd5
  | .cmdSave => .cmd5
  | .cmdReadReq _ => .cmd5
  | .cmdWrite _ _ => .cmd5

end Sys2Proof
end

