-- ==== Sys2Proof/WellFormed.lean ====
section
/-! DEFINITION. Which instruction terms an encoding exists for (30_encoding.md). -/

namespace Sys2Proof

/-- FEED's LEN is a u16, so at most `FEED_MAX` = 65535 bytes (R101, 00_scope.md R7). -/
abbrev feedLengthOk (data : List Byte) : Prop := data.length ≤ 65535

/-- `FRAME_OTHER`'s tag is none of the four decoded ones (R93). -/
abbrev otherTagOk (tag : Byte) : Prop := tag ≠ 0x51 ∧ tag ≠ 0x52 ∧ tag ≠ 0x53 ∧ tag ≠ 0x54

/-- `CMD_WRITE` is the row of the frames that are no unlock, save or read request (R114: those rows are tried first). -/
abbrev plainWriteOk (addr : Byte) (data : Half) : Prop :=
  ¬(addr = 0x69 ∧ data = 0xB588) ∧ ¬(addr = 0x00 ∧ data = 0x0000) ∧ ¬(addr = 0x27 ∧ data.toNat < 256)

/-- An instruction term that some byte sequence encodes. Operands of every other constructor are unrestricted: a reserved
selector and an operand out of range are encodable (R101, R103). -/
def Instr.wf (i : Instr) : Bool :=
  match i with
  | .feed data => decide (feedLengthOk data)
  | .frameOther tag _ _ _ _ _ => decide (otherTagOk tag)
  | .cmdWrite addr data => decide (plainWriteOk addr data)
  | .create _ _ | .enable _ | .get _ | .status _ | .wdtInit _ | .wdtEnable _ | .wdtCheck | .setBaud _ | .setRate _
  | .setContent _ | .setBandwidth _ | .accCalStart | .accCalStop | .magCalStart | .magCalStop | .manualCalEnter
  | .manualCalExit | .zeroYaw | .readReg _ | .frameAcc _ _ _ _ _ | .frameGyro _ _ _ _ _ | .frameAngle _ _ _ _ _
  | .frameMag _ _ _ _ _ | .cmdUnlock | .cmdSave | .cmdReadReq _ => true

end Sys2Proof
end

