-- ==== Sys2Proof/Decode.lean ====
section
/-! DEFINITION. Decoding and encoding of the three formats (30_encoding.md): byte order, the operation bytes of R100, the
frame and command shapes of R91 and R95, the decoding order of R114, the encoder, and the words of spec/opcode_table.json. -/

namespace Sys2Proof

/-! ## Byte order (R62, R63, R101) -/

/-- `le16(lo, hi) = hi * 256 + lo` (00_scope.md R10, R62). -/
def le16 (lo hi : Byte) : Half := BitVec.ofNat 16 (hi.toNat * 256 + lo.toNat)

/-- A u32 of four bytes, least significant first (R101). -/
def le32 (b0 b1 b2 b3 : Byte) : Word :=
  BitVec.ofNat 32 (b0.toNat + 256 * b1.toNat + 65536 * b2.toNat + 16777216 * b3.toNat)

/-- `v[7:0]` of a 16-bit value (R63). -/
def lowByte (v : Half) : Byte := BitVec.ofNat 8 v.toNat

/-- `v[15:8]` of a 16-bit value (R63). -/
def highByte (v : Half) : Byte := BitVec.ofNat 8 (v.toNat / 256)

/-- Byte `k` of a u32, counted from its least significant byte (R101). -/
def wordByte (w : Word) (k : Nat) : Byte := BitVec.ofNat 8 (w.toNat / 256 ^ k)

/-- The four bytes of a u32 in stream order (R101). -/
def wordBytes (w : Word) : List Byte := [wordByte w 0, wordByte w 1, wordByte w 2, wordByte w 3]

/-- The two bytes of a 16-bit value in stream order (R62, R63). -/
def halfBytes (v : Half) : List Byte := [lowByte v, highByte v]

/-! ## Fixed bytes (00_scope.md R7) -/

/-- `HDR`, the frame header byte. -/
def frameHeader : Byte := 0x55
/-- `TAG_ACC`. -/
def tagAcc : Byte := 0x51
/-- `TAG_GYRO`. -/
def tagGyro : Byte := 0x52
/-- `TAG_ANGLE`. -/
def tagAngle : Byte := 0x53
/-- `TAG_MAG`. -/
def tagMag : Byte := 0x54
/-- `CMD_H0`. -/
def cmdHeader0 : Byte := 0xFF
/-- `CMD_H1`. -/
def cmdHeader1 : Byte := 0xAA
/-- `RD_CMD`, the address byte of a read request. -/
def readCommand : Byte := 0x27

/-- Why bytes are no instruction of a format. -/
inductive DecodeError where
  /-- Fewer bytes than the instruction is long (R112). -/
  | incomplete
  /-- An operation byte outside R100's table (R102). -/
  | reservedOperation (op : Byte)
  /-- A FRAME11 begins with `0x55` (R91). -/
  | notAFrame (first : Byte)
  /-- A CMD5 begins with `FF AA` (R95). -/
  | notACommand (first second : Byte)
deriving DecidableEq, Repr

/-- What a decoder answers: the instruction with the bytes after it, or why there is none. -/
abbrev Decoded := Except DecodeError (Instr × List Byte)

/-! ## HOSTCMD (R100, R101) -/

/-- An operation without operands. -/
def noOperand (i : Instr) (rest : List Byte) : Decoded := .ok (i, rest)

/-- An operation with one u8 operand. -/
def byteOperand (mk : Byte → Instr) (rest : List Byte) : Decoded :=
  match rest with
  | b :: rest => .ok (mk b, rest)
  | [] => .error .incomplete

/-- An operation with one u32 operand, little-endian. -/
def wordOperand (mk : Word → Instr) (rest : List Byte) : Decoded :=
  match rest with
  | b0 :: b1 :: b2 :: b3 :: rest => .ok (mk (le32 b0 b1 b2 b3), rest)
  | _ => .error .incomplete

/-- CREATE's operands: a u8, then a u32. -/
def createOperands (rest : List Byte) : Decoded :=
  match rest with
  | tp :: rest => wordOperand (.create tp) rest
  | [] => .error .incomplete

/-- FEED's operands: LEN, then LEN bytes of DATA. -/
def feedOperands (rest : List Byte) : Decoded :=
  match rest with
  | lo :: hi :: rest =>
    let len := (le16 lo hi).toNat
    if rest.length < len then .error .incomplete else .ok (.feed (rest.take len), rest.drop len)
  | _ => .error .incomplete

/-- The operation that a HOSTCMD's bytes name, by R100's table. -/
def decodeHost (bytes : List Byte) : Decoded :=
  match bytes with
  | [] => .error .incomplete
  | op :: rest =>
    match op.toNat with
    | 0x01 => createOperands rest
    | 0x02 => byteOperand .enable rest
    | 0x03 => feedOperands rest
    | 0x04 => byteOperand .get rest
    | 0x05 => byteOperand .status rest
    | 0x10 => wordOperand .wdtInit rest
    | 0x11 => byteOperand .wdtEnable rest
    | 0x12 => noOperand .wdtCheck rest
    | 0x20 => wordOperand .setBaud rest
    | 0x21 => wordOperand .setRate rest
    | 0x22 => wordOperand .setContent rest
    | 0x23 => wordOperand .setBandwidth rest
    | 0x24 => noOperand .accCalStart rest
    | 0x25 => noOperand .accCalStop rest
    | 0x26 => noOperand .magCalStart rest
    | 0x27 => noOperand .magCalStop rest
    | 0x28 => noOperand .manualCalEnter rest
    | 0x29 => noOperand .manualCalExit rest
    | 0x2A => noOperand .zeroYaw rest
    | 0x2B => wordOperand .readReg rest
    | _ => .error (.reservedOperation op)

/-! ## FRAME11 (R91, R93, R94) -/

/-- The row of a frame's tag: the four decoded tags first, then every other (R93, R114). -/
def classifyFrame (tag : Byte) (f0 f1 f2 f3 : Half) (sum : Byte) : Instr :=
  if tag = tagAcc then .frameAcc f0 f1 f2 f3 sum
  else if tag = tagGyro then .frameGyro f0 f1 f2 f3 sum
  else if tag = tagAngle then .frameAngle f0 f1 f2 f3 sum
  else if tag = tagMag then .frameMag f0 f1 f2 f3 sum
  else .frameOther tag f0 f1 f2 f3 sum

/-- The frame at the head of bytes that begin with the header. -/
def decodeFrame (bytes : List Byte) : Decoded :=
  match bytes with
  | [] => .error .incomplete
  | header :: rest =>
    if header = frameHeader then
      match rest with
      | tag :: p0l :: p0h :: p1l :: p1h :: p2l :: p2h :: p3l :: p3h :: sum :: rest =>
        .ok (classifyFrame tag (le16 p0l p0h) (le16 p1l p1h) (le16 p2l p2h) (le16 p3l p3h) sum, rest)
      | _ => .error .incomplete
    else .error (.notAFrame header)

/-! ## CMD5 (R95 to R98) -/

/-- The row of a command frame: unlock, save and read request are tried before write (R114). -/
def classifyCommand (addr dl dh : Byte) : Instr :=
  if addr = 0x69 ∧ dl = 0x88 ∧ dh = 0xB5 then .cmdUnlock
  else if addr = 0x00 ∧ dl = 0x00 ∧ dh = 0x00 then .cmdSave
  else if addr = readCommand ∧ dh = 0x00 then .cmdReadReq dl
  else .cmdWrite addr (le16 dl dh)

/-- The command frame at the head of bytes that begin with `FF AA`. -/
def decodeCommand (bytes : List Byte) : Decoded :=
  match bytes with
  | h0 :: h1 :: rest =>
    if h0 = cmdHeader0 ∧ h1 = cmdHeader1 then
      match rest with
      | addr :: dl :: dh :: rest => .ok (classifyCommand addr dl dh, rest)
      | _ => .error .incomplete
    else .error (.notACommand h0 h1)
  | _ => .error .incomplete

/-- The decoder of each format. -/
def decode (format : Format) (bytes : List Byte) : Decoded :=
  match format with
  | .hostcmd => decodeHost bytes
  | .frame11 => decodeFrame bytes
  | .cmd5 => decodeCommand bytes

/-! ## The encoder -/

/-- The eleven bytes of a frame in stream order (R91). -/
def frameBytes (tag : Byte) (f0 f1 f2 f3 : Half) (sum : Byte) : List Byte :=
  [frameHeader, tag, lowByte f0, highByte f0, lowByte f1, highByte f1, lowByte f2, highByte f2, lowByte f3, highByte f3, sum]

/-- The bytes of `WRITE(a, v)` (R95). -/
def writeBytes (addr : Byte) (data : Half) : List Byte := [cmdHeader0, cmdHeader1, addr, lowByte data, highByte data]

/-- The bytes of an instruction, in stream order (R91, R95 to R98, R100). -/
def encode (i : Instr) : List Byte :=
  match i with
  | .create tp timeout => 0x01 :: tp :: wordBytes timeout
  | .enable flag => [0x02, flag]
  | .feed data => 0x03 :: halfBytes (BitVec.ofNat 16 data.length) ++ data
  | .get sel => [0x04, sel]
  | .status sel => [0x05, sel]
  | .wdtInit timeout => 0x10 :: wordBytes timeout
  | .wdtEnable flag => [0x11, flag]
  | .wdtCheck => [0x12]
  | .setBaud code => 0x20 :: wordBytes code
  | .setRate code => 0x21 :: wordBytes code
  | .setContent mask => 0x22 :: wordBytes mask
  | .setBandwidth code => 0x23 :: wordBytes code
  | .accCalStart => [0x24]
  | .accCalStop => [0x25]
  | .magCalStart => [0x26]
  | .magCalStop => [0x27]
  | .manualCalEnter => [0x28]
  | .manualCalExit => [0x29]
  | .zeroYaw => [0x2A]
  | .readReg addr => 0x2B :: wordBytes addr
  | .frameAcc f0 f1 f2 f3 sum => frameBytes tagAcc f0 f1 f2 f3 sum
  | .frameGyro f0 f1 f2 f3 sum => frameBytes tagGyro f0 f1 f2 f3 sum
  | .frameAngle f0 f1 f2 f3 sum => frameBytes tagAngle f0 f1 f2 f3 sum
  | .frameMag f0 f1 f2 f3 sum => frameBytes tagMag f0 f1 f2 f3 sum
  | .frameOther tag f0 f1 f2 f3 sum => frameBytes tag f0 f1 f2 f3 sum
  | .cmdUnlock => writeBytes 0x69 0xB588
  | .cmdSave => writeBytes 0x00 0x0000
  | .cmdReadReq addr => writeBytes readCommand (addr.setWidth 16)
  | .cmdWrite addr data => writeBytes addr data

/-! ## The words of spec/opcode_table.json (log 16) -/

/-- The low `count` bytes of a number, least significant first. -/
def natBytes (count w : Nat) : List Byte :=
  match count with
  | 0 => []
  | count + 1 => BitVec.ofNat 8 w :: natBytes count (w / 256)

/-- How many bytes a HOSTCMD that begins so is long (R100's length column, R102 for a reserved operation byte). LEN bytes
that are not there count as zero. -/
def hostLength (bytes : List Byte) : Nat :=
  match (bytes.getD 0 0).toNat with
  | 0x01 => 6
  | 0x02 | 0x04 | 0x05 | 0x11 => 2
  | 0x03 => 3 + (le16 (bytes.getD 1 0) (bytes.getD 2 0)).toNat
  | 0x10 | 0x20 | 0x21 | 0x22 | 0x23 | 0x2B => 5
  | _ => 1

/-- Bytes extended with zeros to at least `n` bytes. -/
def zeroExtend (n : Nat) (bytes : List Byte) : List Byte := bytes ++ List.replicate (n - bytes.length) 0

/-- The port and the bytes of a word of the table. A FRAME11 row has 88 bits and a CMD5 row 40, numbered with the first wire
byte leftmost (R90); a HOSTCMD row has its operation byte, and later bytes count on from it. A word of 88 or 40 bits that
does not begin so, read leftmost first, is read from its low end. -/
def tableWord (nbits w : Nat) : Format × List Byte :=
  let low := natBytes ((nbits + 7) / 8) w
  let high := low.reverse
  if low.length = 11 ∧ high.head? = some frameHeader then (.frame11, high)
  else if low.length = 11 ∧ low.head? = some frameHeader then (.frame11, low)
  else if low.length = 5 ∧ high.take 2 = [cmdHeader0, cmdHeader1] then (.cmd5, high)
  else if low.length = 5 ∧ low.take 2 = [cmdHeader0, cmdHeader1] then (.cmd5, low)
  else (.hostcmd, zeroExtend (hostLength low) low)

/-- The instruction the decoder reads from a word of the table. -/
def decodeTableWord (nbits w : Nat) : Option Instr :=
  match decode (tableWord nbits w).1 (tableWord nbits w).2 with
  | .ok (i, _) => some i
  | .error _ => none

end Sys2Proof
end

