-- ==== Sys2Proof/Config.lean ====
section
/-! DEFINITION. What an implementation fixes (00_scope.md R7) and the free values of the model: constants without a body,
so that nothing can be proved of their value. -/

namespace Sys2Proof

/-- `TEMP_EVAL` (R7, 41_packet_decoder.md R163): the evaluation order of the temperature formula. -/
inductive TempEval where
  /-- `F32_STEPWISE`: a binary32 division, then a binary32 addition. -/
  | f32Stepwise
  /-- `F64_THEN_F32`: the same in binary64, rounded once to binary32. -/
  | f64ThenF32
deriving DecidableEq, Repr, Inhabited

/-- The OPEN parameters of R7: "a named parameter that a model takes as an argument". -/
structure Params where
  /-- `REG_BAUD`: remote address of the baud register. -/
  regBaud : Byte
  /-- `REG_RATE`: remote address of the output-rate register. -/
  regRate : Byte
  /-- `REG_CONTENT`: remote address of the output-content register. -/
  regContent : Byte
  /-- `REG_BANDWIDTH`: remote address of the bandwidth register. -/
  regBandwidth : Byte
  /-- `REG_CALSW`: remote address of the calibration-mode register. -/
  regCalsw : Byte
  /-- `REG_MANUALCAL`: remote address of the manual-calibration register. -/
  regManualcal : Byte
  /-- `REG_YAWZERO`: remote address of the yaw-zero register. -/
  regYawzero : Byte
  /-- `T_SETTLE_UNLOCK`, in ms. -/
  settleUnlock : Nat
  /-- `T_SETTLE_WRITE`, in ms. -/
  settleWrite : Nat
  /-- `T_SETTLE_SAVE`, in ms. -/
  settleSave : Nat
  /-- `DEFAULT_RESP_TIMEOUT_MS`. -/
  defaultRespTimeout : Word
  /-- `TEMP_EVAL`. -/
  tempEval : TempEval
deriving DecidableEq, Repr

/-- The bounds R7 sets on the OPEN parameters: each settle wait in 10..999 ms, the default response timeout nonzero. -/
abbrev Params.wf (p : Params) : Prop :=
  10 ≤ p.settleUnlock ∧ p.settleUnlock ≤ 999 ∧ 10 ≤ p.settleWrite ∧ p.settleWrite ≤ 999 ∧
    10 ≤ p.settleSave ∧ p.settleSave ≤ 999 ∧ p.defaultRespTimeout ≠ 0

/-- The agents that take a step (R13, R6). -/
inductive Agent where
  /-- HOST issues the next operation of its HOSTCMD stream. -/
  | host
  /-- HOST's receive context hands over bytes waiting on RX in a FEED (R6, 60_exceptions.md R307). -/
  | receive
  /-- The CE sequencer takes its step, if one is enabled (42_command_encoder.md R190). -/
  | sequencer
deriving DecidableEq, Repr, Inhabited

/-- One turn of ENV's schedule: how far `T_abs` moves first (10_state.md R43), and who moves (R13). -/
structure EnvTurn where
  /-- How many ms pass before the step samples `now`. -/
  advance : Nat
  /-- The agent that takes the step. -/
  agent : Agent
deriving DecidableEq, Repr, Inhabited

/-- The transport's answer to a `Tx` request (42_command_encoder.md R191). -/
inductive TxAnswer where
  /-- `OK`: all five bytes were handed over, in order. -/
  | ok
  /-- `FAIL`: the first `sent` bytes of the frame, none to all five, reached the wire
  (93_implementation_defined.md U3). -/
  | fail (sent : Fin 6)
deriving DecidableEq, Repr, Inhabited

/-- The transport's answer to a `TrReinit` request (60_exceptions.md R317). -/
inductive ReinitAnswer where
  /-- `OK`. -/
  | ok
  /-- `FAIL`. -/
  | fail
deriving DecidableEq, Repr, Inhabited

namespace Config

/-- `REG_BAUD`, OPEN (R7, D12). -/
opaque regBaud : Byte
/-- `REG_RATE`, OPEN (R7, D12). -/
opaque regRate : Byte
/-- `REG_CONTENT`, OPEN (R7, D12). -/
opaque regContent : Byte
/-- `REG_BANDWIDTH`, OPEN (R7, D12). -/
opaque regBandwidth : Byte
/-- `REG_CALSW`, OPEN (R7, D12). -/
opaque regCalsw : Byte
/-- `REG_MANUALCAL`, OPEN (R7, D12). -/
opaque regManualcal : Byte
/-- `REG_YAWZERO`, OPEN (R7, D12). -/
opaque regYawzero : Byte
/-- `T_SETTLE_UNLOCK` less its least value 10: OPEN in 10..999 (R7, D14). -/
opaque settleUnlockOver : Fin 990
/-- `T_SETTLE_WRITE` less its least value 10: OPEN in 10..999 (R7, D14). -/
opaque settleWriteOver : Fin 990
/-- `T_SETTLE_SAVE` less its least value 10: OPEN in 10..999 (R7, D14). -/
opaque settleSaveOver : Fin 990
/-- `DEFAULT_RESP_TIMEOUT_MS` less one: OPEN, a nonzero u32 (R7, D29). -/
opaque defaultRespTimeoutOver : Fin 4294967295
/-- `TEMP_EVAL`, OPEN (R7, D11). -/
opaque tempEval : TempEval

/-- The parameters of the machine that powers on: every one a constant nothing is known of beyond R7's bounds. -/
def params : Params where
  regBaud := regBaud
  regRate := regRate
  regContent := regContent
  regBandwidth := regBandwidth
  regCalsw := regCalsw
  regManualcal := regManualcal
  regYawzero := regYawzero
  settleUnlock := 10 + settleUnlockOver.val
  settleWrite := 10 + settleWriteOver.val
  settleSave := 10 + settleSaveOver.val
  defaultRespTimeout := BitVec.ofNat 32 (1 + defaultRespTimeoutOver.val)
  tempEval := tempEval

/-- ENV's `n`-th turn where no schedule is given: any advance, any agent (U5; log 2). -/
opaque freeTurn : Nat → EnvTurn
/-- The transport's answer to the `n`-th `Tx` where none is given (U3, U4; log 3). -/
opaque freeTxAnswer : Nat → TxAnswer
/-- The transport's answer to the `n`-th `TrReinit` where none is given (U4; log 3). -/
opaque freeReinitAnswer : Nat → ReinitAnswer
/-- How many turns in a row ENV may let go by, while a sequence is pending, without the sequencer step that follows the `n`-th
`Tx`: some finite number (weak fairness, 42_command_encoder.md R192; log 4). -/
opaque patience : Nat → Nat

end Config

end Sys2Proof
end

