-- ==== Sys2Proof/Machine/Float.lean ====
section
/-! DEFINITION. Exact fractions and IEEE 754 rounding to nearest, ties to even: `fl32` and `fl64` (00_scope.md R9, R12). -/

namespace Sys2Proof.Machine

/-- The fraction `num / den`. `den` is positive wherever the model builds one. -/
structure Fraction where
  /-- Numerator. -/
  num : Int
  /-- Denominator. -/
  den : Nat
deriving DecidableEq, Repr

/-- The exact sum of two fractions. -/
def Fraction.add (a b : Fraction) : Fraction := ⟨a.num * b.den + b.num * a.den, a.den * b.den⟩

/-- A binary format: the bits of a significand, and the exponent of the lowest bit of its smallest values. -/
structure FloatFormat where
  /-- Significand bits, the hidden one included. -/
  precision : Nat
  /-- Exponent of the unit of a subnormal. -/
  minExp : Int
deriving DecidableEq, Repr

/-- binary32. -/
def binary32 : FloatFormat := ⟨24, -149⟩

/-- binary64. -/
def binary64 : FloatFormat := ⟨53, -1074⟩

/-- A rounded value: `significand * 2 ^ exponent`, negated where `negative`. -/
structure Rounded where
  /-- The sign. -/
  negative : Bool
  /-- The significand. -/
  significand : Nat
  /-- The exponent of the significand's lowest bit. -/
  exponent : Int
deriving DecidableEq, Repr

/-- `n / (d * 2 ^ e)` as a numerator and a denominator. -/
def scaleBy (n d : Nat) (e : Int) : Nat × Nat := (n * 2 ^ (-e).toNat, d * 2 ^ e.toNat)

/-- The integer nearest to `n / d`, the even one on a tie. -/
def nearestEven (n d : Nat) : Nat :=
  let q := n / d
  let twice := 2 * (n % d)
  if twice < d then q else if d < twice then q + 1 else if q % 2 = 0 then q else q + 1

/-- The exponent that the significand of `n / d` has in a format: with it `n / d` has exactly `precision` bits before the
point, or it is the format's least exponent. -/
def significandExponent (f : FloatFormat) (n d : Nat) : Int :=
  let low := (n.log2 : Int) - d.log2 - f.precision
  let s := scaleBy n d low
  max f.minExp (if 2 ^ f.precision ≤ s.1 / s.2 then low + 1 else low)

/-- A fraction rounded to the nearest value of a format, ties to even; zero is +0.0 (R12). -/
def roundTo (f : FloatFormat) (r : Fraction) : Rounded :=
  if r.num = 0 then ⟨false, 0, f.minExp⟩
  else
    let e := significandExponent f r.num.natAbs r.den
    let s := scaleBy r.num.natAbs r.den e
    ⟨decide (r.num < 0), nearestEven s.1 s.2, e⟩

/-- The exact value of a rounded one. -/
def Rounded.value (x : Rounded) : Fraction :=
  let n : Int := (x.significand * 2 ^ x.exponent.toNat : Nat)
  ⟨if x.negative then -n else n, 2 ^ (-x.exponent).toNat⟩

/-- The binary32 encoding of a value rounded to binary32. A significand that rounding carried to 2^24 moves to the next
exponent by the sum itself; what lies beyond the largest finite value is an infinity (log 12). The power stands first in its
product, so that the kernel evaluates it by its literal factor. -/
def Rounded.bits32 (x : Rounded) : Word :=
  let magnitude := min (2 ^ 23 * (x.exponent + 149).toNat + x.significand) 0x7F800000
  BitVec.ofNat 32 ((if x.negative then 2 ^ 31 else 0) + magnitude)

/-- `bits32(fl32(r))`: the binary32 encoding of the value nearest to `r` (R12). -/
def fl32 (r : Fraction) : Word := (roundTo binary32 r).bits32

/-- `fl32(r)` as an exact value. -/
def fl32Value (r : Fraction) : Fraction := (roundTo binary32 r).value

/-- `fl64(r)` as an exact value. -/
def fl64Value (r : Fraction) : Fraction := (roundTo binary64 r).value

end Sys2Proof.Machine
end

