-- ==== Sys2Proof/Machine/State.lean ====
section
/-! DEFINITION. The block's state (10_state.md R21), its inputs and outputs (R43, R44), the reasons a step can stop, and the
power-on state (70_reset_and_hazards.md R340). -/

namespace Sys2Proof.Machine

/-- Why a step ends in a fault: never. The block has no traps, exceptions or interrupts (60_exceptions.md R300), no
addressable memory (20_memory.md R60), and never halts (70_reset_and_hazards.md R356); errors are result codes. Nothing
raises it. -/
inductive Fault where
deriving DecidableEq, Repr

/-- Why a step refuses. -/
inductive Refusal where
  /-- Raised by `exec` for an instruction of the table that has no meaning yet. Safe. No arm raises it. -/
  | notModelled (mnemonic : String)
deriving DecidableEq, Repr

/-- A three-axis field group (R25 to R28): three binary32 values, each as its 32 bits. -/
structure Axes where
  /-- Index 0: x, or roll. -/
  x : Word
  /-- Index 1: y, or pitch. -/
  y : Word
  /-- Index 2: z, or yaw. -/
  z : Word
deriving DecidableEq, Repr

/-- +0.0 on every axis. -/
def Axes.zero : Axes := ⟨0, 0, 0⟩

/-- `FSTATE` (R36). -/
inductive FState where
  /-- `IDLE`: scanning for the header byte. -/
  | idle
  /-- `RECEIVING`: accumulating payload. -/
  | receiving
  /-- `FRAME_READY`: a checksum-valid frame, already decoded. -/
  | ready
  /-- `FRAME_ERROR`: checksum mismatch. -/
  | error
deriving DecidableEq, Repr

/-- `CE_PHASE` (R42). -/
inductive CePhase where
  /-- `CE_IDLE`. -/
  | idle
  /-- `CE_WAIT_UNLOCK`: the unlock frame is sent, the write frame is to come. -/
  | waitUnlock
  /-- `CE_WAIT_WRITE`: the write frame is sent, the save frame is to come. -/
  | waitWrite
  /-- `CE_WAIT_SAVE`: the save frame is sent. -/
  | waitSave
deriving DecidableEq, Repr

/-- The five bytes of a command frame (30_encoding.md R95). -/
structure CmdFrame where
  /-- H0. -/
  h0 : Byte
  /-- H1. -/
  h1 : Byte
  /-- ADDR. -/
  addr : Byte
  /-- DL. -/
  dl : Byte
  /-- DH. -/
  dh : Byte
deriving DecidableEq, Repr

/-- The configuration operations, named in the event `Done(mnemonic, r)` (42_command_encoder.md R206). -/
inductive ConfigOp where
  | setBaud | setRate | setContent | setBandwidth | accCalStart | accCalStop | magCalStart | magCalStop
  | manualCalEnter | manualCalExit | zeroYaw
deriving DecidableEq, Repr

/-- One entry of the output history (R44). -/
inductive Output where
  /-- On HOST: the result of an operation, as its 32-bit code (60_exceptions.md R301). -/
  | result (code : Word)
  /-- On HOST: the value of a GET or STATUS. -/
  | value (word : Word)
  /-- On HOST: `Done(mnemonic, r)`, the result of a pending configuration operation (R206). -/
  | done (op : ConfigOp) (code : Word)
  /-- On TX: `Tx(frame, RESP_TIMEOUT)` with ENV's answer (R191). -/
  | tx (frame : CmdFrame) (timeout : Word) (answer : TxAnswer)
  /-- On TR: `TrAbort` (60_exceptions.md R317). -/
  | trAbort
  /-- On TR: `TrReinit` with ENV's answer. -/
  | trReinit (answer : ReinitAnswer)
  /-- On TR: `TrArm`. -/
  | trArm
  /-- On DIAG: `RECOVERY_FAILED` (60_exceptions.md R308). -/
  | recoveryFailed
deriving DecidableEq, Repr

/-- The block's state. The first group is R21's table whole; then what R206 implies; then the inputs and outputs of R43 and
R44; then the model's own bookkeeping of ENV's choices. -/
structure State where
  /-- `CREATED` (R22). -/
  created : Bool
  /-- `ENABLED` (R23). -/
  enabled : Bool
  /-- `RESP_TIMEOUT`, ms (R24). -/
  respTimeout : Word
  /-- `GYRO[0..2]`, degrees per second (R25). -/
  gyro : Axes
  /-- `ANGLE[0..2]`, degrees: roll, pitch, yaw (R26). -/
  angle : Axes
  /-- `ACC[0..2]`, g (R27). -/
  acc : Axes
  /-- `MAG[0..2]`, raw count (R28). -/
  mag : Axes
  /-- `TEMP`, degrees Celsius (R29). -/
  temp : Word
  /-- `VERSION` (R30). -/
  version : Half
  /-- `TS`, ms (R31). -/
  ts : Word
  /-- `VALID` (R32). -/
  valid : Bool
  /-- `fb[0..10]` (R34). -/
  fb : Vector Byte 11
  /-- `CURSOR` (R35). -/
  cursor : BitVec 4
  /-- `FSTATE` (R36). -/
  fstate : FState
  /-- `WD_LAST`, ms (R38). -/
  wdLast : Word
  /-- `WD_TIMEOUT`, ms (R39). -/
  wdTimeout : Word
  /-- `WD_ENABLED` (R40). -/
  wdEnabled : Bool
  /-- `WD_COUNT` (R41). -/
  wdCount : Word
  /-- `CE_PHASE` (R42). -/
  cePhase : CePhase
  /-- `CE_FRAME` (R42). -/
  ceFrame : CmdFrame
  /-- `CE_T0`, ms (R42). -/
  ceT0 : Word
  /-- The mnemonic that `Done` will name (R206). No rule reads it in `CE_IDLE` (log 11). -/
  ceOp : ConfigOp
  /-- `T_abs`, ms (R43). -/
  tAbs : Nat
  /-- HOSTCMD bytes on the HOST port, not yet consumed (30_encoding.md R100). -/
  hostIn : List Byte
  /-- Bytes on RX, not yet handed over in a FEED (00_scope.md R6; log 9, log 17). -/
  rxIn : List Byte
  /-- The output history, oldest first (R44). -/
  out : List Output
  /-- The OPEN parameters (00_scope.md R7). No step writes them (log 1). -/
  params : Params
  /-- ENV's schedule still to come; free turns follow it (log 2). -/
  turns : List EnvTurn
  /-- ENV's answers to the next `Tx` requests; free answers follow them (log 3). -/
  txAnswers : List TxAnswer
  /-- ENV's answers to the next `TrReinit` requests; free answers follow them (log 3). -/
  reinitAnswers : List ReinitAnswer
  /-- How many turns were taken: the argument of the next free turn (log 2). -/
  turnCount : Nat
  /-- How many `Tx` requests were made: the argument of the next free answer (log 3). -/
  txCount : Nat
  /-- How many `TrReinit` requests were made: the argument of the next free answer (log 3). -/
  reinitCount : Nat
  /-- How many turns in a row went by, while a sequence was pending, without a sequencer step (R192; log 4). -/
  skips : Nat
deriving DecidableEq, Repr

/-- The power-on state (70_reset_and_hazards.md R340): every register zero, `FSTATE` IDLE, `CE_PHASE` CE_IDLE. The inputs are
empty and the parameters are Config's (log 1, log 15). -/
def State.reset : State where
  created := false
  enabled := false
  respTimeout := 0
  gyro := Axes.zero
  angle := Axes.zero
  acc := Axes.zero
  mag := Axes.zero
  temp := 0
  version := 0
  ts := 0
  valid := false
  fb := Vector.replicate 11 0
  cursor := 0
  fstate := .idle
  wdLast := 0
  wdTimeout := 0
  wdEnabled := false
  wdCount := 0
  cePhase := .idle
  ceFrame := ⟨0, 0, 0, 0, 0⟩
  ceT0 := 0
  ceOp := .setBaud
  tAbs := 0
  hostIn := []
  rxIn := []
  out := []
  params := Config.params
  turns := []
  txAnswers := []
  reinitAnswers := []
  turnCount := 0
  txCount := 0
  reinitCount := 0
  skips := 0

end Sys2Proof.Machine
end

