-- ==== Sys2Proof/Machine/Operands.lean ====
section
/-! DEFINITION. Operand forms: the frame fields of 30_encoding.md R94 and their conversions to physical units
(41_packet_decoder.md R162, R163), flags, the command frames of R95 to R98, result codes (60_exceptions.md R301), the range
checks of the operand-taking operations, and the GET and STATUS selectors (R103, R104). -/

namespace Sys2Proof.Machine

/-! ## Flags and result codes -/

/-- A u8 read as a boolean: nonzero is true (R101). -/
def flagSet (b : Byte) : Bool := decide (b ≠ 0)

/-- A flag as a word: 0 or 1 (R103, R104). -/
def flagWord (b : Bool) : Word := if b then 1 else 0

/-- `OK` = 0 (R301). -/
def codeOk : Word := 0
/-- `E_PARAM` = -1 (R301). -/
def codeParam : Word := 0xFFFFFFFF
/-- `E_STATE` = -2 (R301). -/
def codeState : Word := 0xFFFFFFFE
/-- `E_TRANSPORT` = -3 (R301). -/
def codeTransport : Word := 0xFFFFFFFD

/-! ## Frame fields (R94) -/

/-- `f_k`, the 16-bit field at payload offset `2k` of the frame in `fb` (R62, R94). -/
def State.field (s : State) (k : Nat) : Half := le16 (s.fb.getD (2 + 2 * k) 0) (s.fb.getD (3 + 2 * k) 0)

/-- `raw_k`: the field read as signed (R94). -/
def State.raw (s : State) (k : Nat) : Int := (s.field k).toInt

/-! ## Conversions (41_packet_decoder.md R162, R163) -/

/-- `GYRO_CONV(r) = fl32(r * 2000 / 32768)`. -/
def gyroConv (r : Int) : Word := fl32 ⟨r * 2000, 32768⟩

/-- `ANGLE_CONV(r) = fl32(r * 180 / 32768)`. -/
def angleConv (r : Int) : Word := fl32 ⟨r * 180, 32768⟩

/-- `ACC_CONV(r) = fl32(r * 16 / 32768)`. -/
def accConv (r : Int) : Word := fl32 ⟨r * 16, 32768⟩

/-- `MAG_CONV(r) = fl32(r)`. -/
def magConv (r : Int) : Word := fl32 ⟨r, 1⟩

/-- `36.25`. -/
def tempOffset : Fraction := ⟨145, 4⟩

/-- `TEMP_CONV(r)` under either evaluation order (R163). -/
def tempConv (order : TempEval) (r : Int) : Word :=
  match order with
  | .f32Stepwise => fl32 ((fl32Value ⟨r, 340⟩).add tempOffset)
  | .f64ThenF32 => fl32 (fl64Value ((fl64Value ⟨r, 340⟩).add tempOffset))

/-! ## Command frames (R95 to R98) -/

/-- `WRITE(a, v)` (R95, R63). -/
def writeFrame (addr : Byte) (data : Half) : CmdFrame := ⟨cmdHeader0, cmdHeader1, addr, lowByte data, highByte data⟩

/-- `UNLOCK` (R96). -/
def unlockFrame : CmdFrame := writeFrame 0x69 0xB588

/-- `SAVE` (R97). -/
def saveFrame : CmdFrame := writeFrame 0x00 0x0000

/-- The read request for a register address (R98). -/
def readRequestFrame (addr : Byte) : CmdFrame := writeFrame readCommand (addr.setWidth 16)

/-- The bytes of a command frame in stream order (R61). -/
def CmdFrame.bytes (c : CmdFrame) : List Byte := [c.h0, c.h1, c.addr, c.dl, c.dh]

/-- The data values of R107. -/
def calNormal : Half := 0x0000
/-- `CAL_ACC`. -/
def calAcc : Half := 0x0001
/-- `CAL_MAG`. -/
def calMag : Half := 0x0007
/-- `MANCAL_ENTER`. -/
def mancalEnter : Half := 0x0001
/-- `MANCAL_EXIT`. -/
def mancalExit : Half := 0x0004
/-- `YAWZERO_VALUE`. -/
def yawzeroValue : Half := 0x0000

/-! ## Operand ranges -/

/-- SET_BAUD: `1 <= CODE <= 7` (R194). -/
def baudOk (code : Word) : Bool := decide (1 ≤ code.toNat ∧ code.toNat ≤ 7)

/-- SET_RATE: `1 <= CODE <= 13 and CODE != 10` (R195). -/
def rateOk (code : Word) : Bool := decide (1 ≤ code.toNat ∧ code.toNat ≤ 13 ∧ code.toNat ≠ 10)

/-- SET_CONTENT: `1 <= MASK <= 0xFF` (R196). -/
def contentOk (mask : Word) : Bool := decide (1 ≤ mask.toNat ∧ mask.toNat ≤ 0xFF)

/-- SET_BANDWIDTH: `CODE <= 6` (R197). -/
def bandwidthOk (code : Word) : Bool := decide (code.toNat ≤ 6)

/-- READ_REG: `ADDR <= 0xFF` (R205). -/
def readAddrOk (addr : Word) : Bool := decide (addr.toNat ≤ 0xFF)

/-- WDT_INIT: `500 <= TIMEOUT <= 30000` (43_watchdog.md R230). -/
def windowOk (timeout : Word) : Bool := decide (500 ≤ timeout.toNat ∧ timeout.toNat ≤ 30000)

/-! ## Encoded states and selectors -/

/-- The value of `FSTATE` that STATUS shows (10_state.md R36). -/
def FState.code (f : FState) : Word :=
  match f with
  | .idle => 0
  | .receiving => 1
  | .ready => 2
  | .error => 3

/-- The value of `CE_PHASE` that STATUS shows (10_state.md R42). -/
def CePhase.code (p : CePhase) : Word :=
  match p with
  | .idle => 0
  | .waitUnlock => 1
  | .waitWrite => 2
  | .waitSave => 3

/-- The snapshot register a GET selector names, as a word (R103); zero for a reserved selector (44 R262). -/
def State.snapshotWord (s : State) (sel : Byte) : Word :=
  match sel.toNat with
  | 0x00 => s.gyro.x
  | 0x01 => s.gyro.y
  | 0x02 => s.gyro.z
  | 0x03 => s.angle.x
  | 0x04 => s.angle.y
  | 0x05 => s.angle.z
  | 0x06 => s.acc.x
  | 0x07 => s.acc.y
  | 0x08 => s.acc.z
  | 0x09 => s.mag.x
  | 0x0A => s.mag.y
  | 0x0B => s.mag.z
  | 0x0C => s.temp
  | 0x0D => s.version.setWidth 32
  | 0x0E => s.ts
  | 0x0F => flagWord s.valid
  | _ => 0

/-- The register a STATUS selector names, as a word (R104); zero for a reserved selector (44 R264). -/
def State.statusWord (s : State) (sel : Byte) : Word :=
  match sel.toNat with
  | 0x00 => flagWord s.created
  | 0x01 => flagWord s.enabled
  | 0x02 => s.fstate.code
  | 0x03 => s.cursor.setWidth 32
  | 0x04 => flagWord s.wdEnabled
  | 0x05 => s.wdTimeout
  | 0x06 => s.wdLast
  | 0x07 => s.wdCount
  | 0x08 => s.respTimeout
  | 0x09 => s.cePhase.code
  | 0x0A => flagWord s.valid
  | n => if 0x10 ≤ n ∧ n ≤ 0x1A then (s.fb.getD (n - 0x10) 0).setWidth 32 else 0

end Sys2Proof.Machine
end

