-- ==== Sys2Proof/Machine/Flags.lean ====
section
/-! DEFINITION. What the block computes from its state to decide: the time and elapsed times (10_state.md R43,
43_watchdog.md R233), the checksum test (30_encoding.md R92), the gate (44_lifecycle_accessors.md R263), the watchdog's test
(R232), the sequencer's enabling conditions (42_command_encoder.md R190, R192) and ENV's next choices (R317). -/

namespace Sys2Proof.Machine

/-- `now = T_abs mod 2^32` (R43). -/
def State.now (s : State) : Word := BitVec.ofNat 32 s.tAbs

/-- `(now - since) mod 2^32` (R233, R192). -/
def State.elapsed (s : State) (since : Word) : Word := s.now - since

/-- `CREATED` and `ENABLED`: the valid entity of R263, and the first test of R130, R190, R205. -/
def State.live (s : State) : Bool := s.created && s.enabled

/-- `GATE() = CREATED and ENABLED and VALID` (R263). -/
def State.gate (s : State) : Bool := s.created && s.enabled && s.valid

/-- `CS(fb) = (fb[0] + ... + fb[9]) mod 256` (R92, 10_state.md R37). -/
def checksum (fb : Vector Byte 11) : Byte := BitVec.ofNat 8 ((fb.toList.take 10).map BitVec.toNat).sum

/-- The frame in a buffer is checksum-valid: `fb[10] = CS(fb)` (R92). -/
def checksumValid (fb : Vector Byte 11) : Bool := decide (checksum fb = fb.getD 10 0)

/-- WDT_CHECK's condition: created, enabled, armed, and `ELAPSED() > WD_TIMEOUT`, strict (R232, R233). -/
def State.windowExceeded (s : State) : Bool :=
  s.created && s.enabled && s.wdEnabled && decide (s.wdTimeout.toNat < (s.elapsed s.wdLast).toNat)

/-- The settle wait of the sequencer's phase, in ms; none in `CE_IDLE` (R190). -/
def State.settleWait (s : State) : Option Nat :=
  match s.cePhase with
  | .idle => none
  | .waitUnlock => some s.params.settleUnlock
  | .waitWrite => some s.params.settleWrite
  | .waitSave => some s.params.settleSave

/-- A sequencer step is enabled: a sequence is pending and `(now - CE_T0) mod 2^32` has reached its wait (R190, R192). -/
def State.sequencerEnabled (s : State) : Bool :=
  match s.settleWait with
  | some wait => decide (wait ≤ (s.elapsed s.ceT0).toNat)
  | none => false

/-- ENV's answer to the next `Tx`: the one on hand, else a free value (R317, U4; log 3). -/
def State.nextTxAnswer (s : State) : TxAnswer :=
  match s.txAnswers with
  | answer :: _ => answer
  | [] => Config.freeTxAnswer s.txCount

/-- ENV's answer to the next `TrReinit`: the one on hand, else a free value (R317, U4; log 3). -/
def State.nextReinitAnswer (s : State) : ReinitAnswer :=
  match s.reinitAnswers with
  | answer :: _ => answer
  | [] => Config.freeReinitAnswer s.reinitCount

/-- How many ms of the pending sequence's settle wait are left (R192); none in `CE_IDLE`. -/
def State.waitLeft (s : State) : Nat :=
  match s.settleWait with
  | some wait => wait - (s.elapsed s.ceT0).toNat
  | none => 0

/-- `T_abs` moves on by `ms` (R43). -/
def State.later (s : State) (ms : Nat) : State := { s with tAbs := s.tAbs + ms }

/-- As many turns have gone by without a step of the pending sequence as ENV may let go by (weak fairness, R192; log 4). -/
def State.starved (s : State) : Bool := decide (s.cePhase ≠ .idle ∧ Config.patience s.txCount ≤ s.skips)

/-- ENV's next turn: the scheduled one, else a free one. A starved sequencer takes the free turn, and what is left of its
settle wait passes first, so that "every issued sequence ends" (R13, R192, U5; log 2, log 4). -/
def State.nextTurn (s : State) : EnvTurn :=
  match s.turns with
  | turn :: _ => turn
  | [] =>
    let turn := Config.freeTurn s.turnCount
    if s.starved then ⟨turn.advance + (s.later turn.advance).waitLeft, .sequencer⟩ else turn

end Sys2Proof.Machine
end

