-- ==== Sys2Proof/Machine/Ops.lean ====
section
/-! DEFINITION. The shared operations: outputs (10_state.md R44), transport requests (60_exceptions.md R317), the writes that
several rules share, and RECOVER, the block's nearest thing to taking an exception (60_exceptions.md R312, 43_watchdog.md
R234). The block has no traps and no return from one (R300, R312). -/

namespace Sys2Proof.Machine

/-! ## Outputs -/

/-- Append to the output history, in production order (R44). -/
def State.emit (s : State) (o : Output) : State := { s with out := s.out ++ [o] }

/-- `return r` on HOST (00_scope.md R10, R100). -/
def State.answer (s : State) (code : Word) : State := s.emit (.result code)

/-- Record ENV's answer to a `Tx` as given. -/
def State.tookTxAnswer (s : State) : State := { s with txAnswers := s.txAnswers.tail, txCount := s.txCount + 1 }

/-- Record ENV's answer to a `TrReinit` as given. -/
def State.tookReinitAnswer (s : State) : State :=
  { s with reinitAnswers := s.reinitAnswers.tail, reinitCount := s.reinitCount + 1 }

/-- `Tx(c)`: the transmit request `Tx(c, RESP_TIMEOUT)`, which ENV answers within the step (42_command_encoder.md R191). The
answer is `nextTxAnswer` of the state before. It changes no register. -/
def State.transmit (s : State) (c : CmdFrame) : State := (s.emit (.tx c s.respTimeout s.nextTxAnswer)).tookTxAnswer

/-- `TrReinit()`, answered by `nextReinitAnswer` of the state before (R317). -/
def State.reinit (s : State) : State := (s.emit (.trReinit s.nextReinitAnswer)).tookReinitAnswer

/-- `complete(r)`: end the pending operation, `CE_PHASE <- CE_IDLE`, with the event `Done(mnemonic, r)` (R190, R206). -/
def State.complete (s : State) (code : Word) : State := { s with cePhase := .idle }.emit (.done s.ceOp code)

/-! ## Shared writes -/

/-- Frame state to IDLE with `CURSOR` 0; `fb` keeps its bytes (10_state.md R34, R138, R139, R234, R261). -/
def State.resetFrame (s : State) : State := { s with fstate := .idle, cursor := 0 }

/-- Every snapshot register to zero, `VALID` among them (R260, R261). -/
def State.clearSnapshot (s : State) : State :=
  { s with
    gyro := Axes.zero, angle := Axes.zero, acc := Axes.zero, mag := Axes.zero
    temp := 0, version := 0, ts := 0, valid := false }

/-- `WD_FEED()`: `WD_LAST <- now` (43_watchdog.md R235). -/
def State.wdFeed (s : State) : State := { s with wdLast := s.now }

/-- `STAMP()`: `TS <- now`, `VALID <- 1` (41_packet_decoder.md R169). -/
def State.stamp (s : State) : State := { s with ts := s.now, valid := true }

/-- The recovery counter after one more recovery: saturating (43_watchdog.md R236). -/
def bumpCount (count : Word) : Word := if count.toNat < 2 ^ 32 - 1 then count + 1 else count

/-! ## The recovery action -/

/-- The transport part of RECOVER: abort, reinitialise, then re-arm, or the diagnostic event where the reinitialisation fails
(R234, 60_exceptions.md R308). DESIGN CHOICE (log 17): the bytes waiting in `rxIn` survive `TrAbort` and `TrReinit`; the spec does
not say what becomes of bytes received and not yet fed (10_state.md R46, 60_exceptions.md R317). -/
def State.recoverTransport (s : State) : State :=
  let s := s.emit .trAbort
  match s.nextReinitAnswer with
  | .ok => s.reinit.emit .trArm
  | .fail => s.reinit.emit .recoveryFailed

/-- `RECOVER()` (R234): the transport requests, then the frame state to IDLE, `VALID` to 0, the counter, and `WD_LAST`. It
saves no state, and nothing returns from it (60_exceptions.md R312). -/
def State.recover (s : State) : State :=
  let s := s.recoverTransport.resetFrame
  { s with valid := false, wdCount := bumpCount s.wdCount, wdLast := s.now }

end Sys2Proof.Machine
end

