-- ==== Sys2Proof/Machine/PacketDecoder.lean ====
section
/-! DEFINITION. PD, the packet decoder: DECODE and its five cases (41_packet_decoder.md). -/

namespace Sys2Proof.Machine

/-- `DECODE_ACC()` (R164). -/
def State.decodeAcc (s : State) : State :=
  { s with
    acc := ⟨accConv (s.raw 0), accConv (s.raw 1), accConv (s.raw 2)⟩
    temp := tempConv s.params.tempEval (s.raw 3) }

/-- `DECODE_GYRO()` (R165). Field 3 is not read. -/
def State.decodeGyro (s : State) : State :=
  { s with gyro := ⟨gyroConv (s.raw 0), gyroConv (s.raw 1), gyroConv (s.raw 2)⟩ }

/-- `DECODE_ANGLE()` (R166): roll, pitch, yaw, and the unsigned version. -/
def State.decodeAngle (s : State) : State :=
  { s with
    angle := ⟨angleConv (s.raw 0), angleConv (s.raw 1), angleConv (s.raw 2)⟩
    version := s.field 3 }

/-- `DECODE_MAG()` (R167). -/
def State.decodeMag (s : State) : State :=
  { s with
    mag := ⟨magConv (s.raw 0), magConv (s.raw 1), magConv (s.raw 2)⟩
    temp := tempConv s.params.tempEval (s.raw 3) }

/-- `DECODE_OTHER()`: nothing (R168). -/
def State.decodeOther (s : State) : State := s

/-- `DECODE()`: dispatch on the tag `fb[1]`; a known tag's group is stamped, another tag writes nothing (R160, R168, R169). -/
def State.decodePacket (s : State) : State :=
  let tag := s.fb.getD 1 0
  if tag = tagAcc then s.decodeAcc.stamp
  else if tag = tagGyro then s.decodeGyro.stamp
  else if tag = tagAngle then s.decodeAngle.stamp
  else if tag = tagMag then s.decodeMag.stamp
  else s.decodeOther

end Sys2Proof.Machine
end

