-- ==== Sys2Proof/Machine/Assembler.lean ====
section
/-! DEFINITION. FA, the frame assembler and checksum validator (40_frame_assembler.md): the byte step, FEED, and the five
FRAME11 rows, which are frames the block takes in. -/

namespace Sys2Proof.Machine

/-- `IDLE_STEP(b)`, the header scan (R132). -/
def State.idleStep (s : State) (b : Byte) : State :=
  if b = frameHeader then { s with fb := s.fb.setIfInBounds 0 b, cursor := 1, fstate := .receiving } else s

/-- `COMPLETE()`, the checksum validator: a match feeds the watchdog and then decodes (R134, R135, R136); a mismatch is
FRAME_ERROR (R137). -/
def State.completeFrame (s : State) : State :=
  if checksumValid s.fb then { s with fstate := .ready }.wdFeed.decodePacket else { s with fstate := .error }

/-- Append a byte at `CURSOR` (R133). -/
def State.appendByte (s : State) (b : Byte) : State :=
  { s with fb := s.fb.setIfInBounds s.cursor.toNat b, cursor := s.cursor + 1 }

/-- `RECV_STEP(b)`, payload accumulation (R133). -/
def State.recvStep (s : State) (b : Byte) : State :=
  let s := s.appendByte b
  if s.cursor = 11 then s.completeFrame else s

/-- `REPLAY_STEP(b)`: close the old frame, then scan the same byte (R138). -/
def State.replayStep (s : State) (b : Byte) : State := s.resetFrame.idleStep b

/-- `OVERFLOW_STEP(b)`: the cursor is out of range (R139). -/
def State.overflowStep (s : State) (b : Byte) : State := s.resetFrame.idleStep b

/-- `BYTE_STEP(b)` (R131). -/
def State.byteStep (s : State) (b : Byte) : State :=
  match s.fstate with
  | .idle => s.idleStep b
  | .receiving => if 1 ≤ s.cursor.toNat ∧ s.cursor.toNat ≤ 10 then s.recvStep b else s.overflowStep b
  | .ready => s.replayStep b
  | .error => s.replayStep b

/-- The byte steps of a chunk, in order (R130, 20_memory.md R75). -/
def State.feedBytes (s : State) (data : List Byte) : State := data.foldl State.byteStep s

/-- `FEED(DATA)` (R130). -/
def State.feed (s : State) (data : List Byte) : State :=
  if !s.live then s.answer codeState
  else if data = [] then s.answer codeParam
  else (s.feedBytes data).answer codeOk

/-- FEED (R130). -/
def execFeed (data : List Byte) (s : State) : Host.Outcome State Fault Refusal := .next (s.feed data)

/-- FRAME_ACC: the block takes in an acceleration frame, as the FEED of its eleven bytes (R91, R111, R164; log 7). -/
def execFrameAcc (f0 f1 f2 f3 : Half) (sum : Byte) (s : State) : Host.Outcome State Fault Refusal :=
  .next (s.feed (frameBytes tagAcc f0 f1 f2 f3 sum))

/-- FRAME_GYRO: the block takes in a gyroscope frame (R91, R111, R165; log 7). -/
def execFrameGyro (f0 f1 f2 f3 : Half) (sum : Byte) (s : State) : Host.Outcome State Fault Refusal :=
  .next (s.feed (frameBytes tagGyro f0 f1 f2 f3 sum))

/-- FRAME_ANGLE: the block takes in an orientation frame (R91, R111, R166; log 7). -/
def execFrameAngle (f0 f1 f2 f3 : Half) (sum : Byte) (s : State) : Host.Outcome State Fault Refusal :=
  .next (s.feed (frameBytes tagAngle f0 f1 f2 f3 sum))

/-- FRAME_MAG: the block takes in a magnetic-field frame (R91, R111, R167; log 7). -/
def execFrameMag (f0 f1 f2 f3 : Half) (sum : Byte) (s : State) : Host.Outcome State Fault Refusal :=
  .next (s.feed (frameBytes tagMag f0 f1 f2 f3 sum))

/-- FRAME_OTHER: the block takes in a frame whose tag it does not decode (R91, R111, R168; log 7). -/
def execFrameOther (tag : Byte) (f0 f1 f2 f3 : Half) (sum : Byte) (s : State) : Host.Outcome State Fault Refusal :=
  .next (s.feed (frameBytes tag f0 f1 f2 f3 sum))

end Sys2Proof.Machine
end

