-- ==== Sys2Proof/Machine/CommandEncoder.lean ====
section
/-! DEFINITION. CE, the register command encoder (42_command_encoder.md): the configuration sequence, its operations, the read
request, the sequencer's steps, and the four CMD5 rows, which are frames the block transmits. -/

namespace Sys2Proof.Machine

/-! ## The issue step (R190) -/

/-- The registers an issue step writes once its unlock frame is sent (R190); the operation is then pending (R206). -/
def State.startSequence (s : State) (op : ConfigOp) (frame : CmdFrame) : State :=
  { s with ceFrame := frame, ceT0 := s.now, cePhase := .waitUnlock, ceOp := op }

/-- `CONFIGURE(reg, v, ok)`, the issue step of every configuration operation: the preconditions in R193's order, then the
unlock frame (R190). -/
def State.configure (s : State) (op : ConfigOp) (reg : Byte) (data : Half) (ok : Bool) : State :=
  if !s.live then s.answer codeState
  else if s.cePhase ≠ .idle then s.answer codeState
  else if !ok then s.answer codeParam
  else
    match s.nextTxAnswer with
    | .fail _ => (s.transmit unlockFrame).answer codeTransport
    | .ok => (s.transmit unlockFrame).startSequence op (writeFrame reg data)

/-! ## The operations (R194 to R205) -/

/-- SET_BAUD (R194). -/
def execSetBaud (code : Word) (s : State) : Host.Outcome State Fault Refusal :=
  .next (s.configure .setBaud s.params.regBaud (code.setWidth 16) (baudOk code))

/-- SET_RATE (R195). -/
def execSetRate (code : Word) (s : State) : Host.Outcome State Fault Refusal :=
  .next (s.configure .setRate s.params.regRate (code.setWidth 16) (rateOk code))

/-- SET_CONTENT (R196). -/
def execSetContent (mask : Word) (s : State) : Host.Outcome State Fault Refusal :=
  .next (s.configure .setContent s.params.regContent (mask.setWidth 16) (contentOk mask))

/-- SET_BANDWIDTH (R197). -/
def execSetBandwidth (code : Word) (s : State) : Host.Outcome State Fault Refusal :=
  .next (s.configure .setBandwidth s.params.regBandwidth (code.setWidth 16) (bandwidthOk code))

/-- ACC_CAL_START (R198). -/
def execAccCalStart (s : State) : Host.Outcome State Fault Refusal :=
  .next (s.configure .accCalStart s.params.regCalsw calAcc true)

/-- ACC_CAL_STOP (R199). -/
def execAccCalStop (s : State) : Host.Outcome State Fault Refusal :=
  .next (s.configure .accCalStop s.params.regCalsw calNormal true)

/-- MAG_CAL_START (R200). -/
def execMagCalStart (s : State) : Host.Outcome State Fault Refusal :=
  .next (s.configure .magCalStart s.params.regCalsw calMag true)

/-- MAG_CAL_STOP (R201). -/
def execMagCalStop (s : State) : Host.Outcome State Fault Refusal :=
  .next (s.configure .magCalStop s.params.regCalsw calNormal true)

/-- MANUAL_CAL_ENTER (R202). -/
def execManualCalEnter (s : State) : Host.Outcome State Fault Refusal :=
  .next (s.configure .manualCalEnter s.params.regManualcal mancalEnter true)

/-- MANUAL_CAL_EXIT (R203). -/
def execManualCalExit (s : State) : Host.Outcome State Fault Refusal :=
  .next (s.configure .manualCalExit s.params.regManualcal mancalExit true)

/-- ZERO_YAW (R204). -/
def execZeroYaw (s : State) : Host.Outcome State Fault Refusal :=
  .next (s.configure .zeroYaw s.params.regYawzero yawzeroValue true)

/-- READ_REG's effect: one frame, no unlock, no settle wait, no register written (R205). -/
def State.requestRead (s : State) (addr : Word) : State :=
  if !s.live then s.answer codeState
  else if s.cePhase ≠ .idle then s.answer codeState
  else if !readAddrOk addr then s.answer codeParam
  else
    match s.nextTxAnswer with
    | .fail _ => (s.transmit (readRequestFrame (addr.setWidth 8))).answer codeTransport
    | .ok => (s.transmit (readRequestFrame (addr.setWidth 8))).answer codeOk

/-- READ_REG (R205). -/
def execReadReg (addr : Word) (s : State) : Host.Outcome State Fault Refusal := .next (s.requestRead addr)

/-! ## The CMD5 rows: the transmit request of each frame (R191; log 8) -/

/-- CMD_UNLOCK (R96, R191). -/
def execCmdUnlock (s : State) : Host.Outcome State Fault Refusal := .next (s.transmit unlockFrame)

/-- CMD_SAVE (R97, R191). -/
def execCmdSave (s : State) : Host.Outcome State Fault Refusal := .next (s.transmit saveFrame)

/-- CMD_READREQ (R98, R191). -/
def execCmdReadReq (addr : Byte) (s : State) : Host.Outcome State Fault Refusal :=
  .next (s.transmit (readRequestFrame addr))

/-- CMD_WRITE (R95, R191). -/
def execCmdWrite (addr : Byte) (data : Half) (s : State) : Host.Outcome State Fault Refusal :=
  .next (s.transmit (writeFrame addr data))

/-! ## The sequencer's steps (R190) -/

/-- The frame an enabled sequencer step transmits: `CE_FRAME` in step 1, SAVE in step 2; none in step 3 and where no step is
enabled. -/
def State.sequencerFrame (s : State) : Option CmdFrame :=
  if s.sequencerEnabled then
    match s.cePhase with
    | .waitUnlock => some s.ceFrame
    | .waitWrite => some saveFrame
    | .waitSave => none
    | .idle => none
  else none

/-- What steps 1 and 2 do once ENV has answered their transmit request: FAIL ends the operation with `E_TRANSPORT`; OK
restarts the settle wait in the next phase. -/
def State.sequencerAdvance (s : State) (answer : TxAnswer) : State :=
  match answer with
  | .fail _ => s.complete codeTransport
  | .ok => { s with ceT0 := s.now, cePhase := if s.cePhase = .waitUnlock then .waitWrite else .waitSave }

/-- Step 3, where enabled: the operation completes with `OK`. Where no step is enabled the sequencer does nothing. -/
def State.sequencerFinish (s : State) : State :=
  if s.sequencerEnabled ∧ s.cePhase = .waitSave then s.complete codeOk else s

end Sys2Proof.Machine
end

