-- ==== Sys2Proof/Machine/Lifecycle.lean ====
section
/-! DEFINITION. LC, lifecycle and accessors (44_lifecycle_accessors.md). -/

namespace Sys2Proof.Machine

/-- The response timeout CREATE sets: the operand, or the default where it is 0 (R260, 10_state.md R24). -/
def State.chosenTimeout (s : State) (timeout : Word) : Word := if timeout = 0 then s.params.defaultRespTimeout else timeout

/-- Every register as a successful CREATE sets it (R260). -/
def State.initialise (s : State) (timeout : Word) : State :=
  { s.clearSnapshot with
    fb := Vector.replicate 11 0, cursor := 0, fstate := .idle
    wdLast := 0, wdTimeout := 0, wdEnabled := false, wdCount := 0
    cePhase := .idle, ceFrame := ⟨0, 0, 0, 0, 0⟩, ceT0 := 0
    respTimeout := s.chosenTimeout timeout, enabled := false, created := true }

/-- CREATE (R260). -/
def execCreate (tp : Byte) (timeout : Word) (s : State) : Host.Outcome State Fault Refusal :=
  .next
    (if s.created then s.answer codeState
    else if !flagSet tp then s.answer codeParam
    else (s.initialise timeout).answer codeOk)

/-- ENABLE (R261). -/
def execEnable (flag : Byte) (s : State) : Host.Outcome State Fault Refusal :=
  .next
    (if !s.created then s.answer codeState
    else if flagSet flag then { s with enabled := true }.answer codeOk
    else { s with enabled := false }.clearSnapshot.resetFrame.answer codeOk)

/-- GET (R262): the register through the gate; zero where the gate is closed or the selector reserved (log 6). -/
def execGet (sel : Byte) (s : State) : Host.Outcome State Fault Refusal :=
  .next (s.emit (.value (if s.gate then s.snapshotWord sel else 0)))

/-- STATUS (R264): the register without the gate; zero for a reserved selector (log 6). -/
def execStatus (sel : Byte) (s : State) : Host.Outcome State Fault Refusal := .next (s.emit (.value (s.statusWord sel)))

end Sys2Proof.Machine
end

