-- ==== Sys2Proof/Machine/Watchdog.lean ====
section
/-! DEFINITION. WD, the watchdog timer with recovery counter (43_watchdog.md). RECOVER is in Ops. -/

namespace Sys2Proof.Machine

/-- WDT_INIT (R230). -/
def execWdtInit (timeout : Word) (s : State) : Host.Outcome State Fault Refusal :=
  .next
    (if !s.created then s.answer codeState
    else if !windowOk timeout then s.answer codeParam
    else { s with wdTimeout := timeout, wdLast := s.now }.answer codeOk)

/-- WDT_ENABLE (R231). -/
def execWdtEnable (flag : Byte) (s : State) : Host.Outcome State Fault Refusal :=
  .next
    (if !s.created then s.answer codeState
    else if flagSet flag then { s with wdEnabled := true, wdLast := s.now }.answer codeOk
    else { s with wdEnabled := false }.answer codeOk)

/-- WDT_CHECK (R232): recovers where the window is exceeded. It returns no result. -/
def execWdtCheck (s : State) : Host.Outcome State Fault Refusal := .next (if s.windowExceeded then s.recover else s)

end Sys2Proof.Machine
end

