-- ==== Sys2Proof/Machine/Dispatch.lean ====
section
/-! DEFINITION. The meaning of every instruction: one arm per constructor, each one call. -/

namespace Sys2Proof.Machine

/-- The effect of an instruction. -/
def exec (i : Instr) (s : State) : Host.Outcome State Fault Refusal :=
  match i with
  | .create tp timeout => Sys2Proof.Machine.execCreate tp timeout s
  | .enable flag => Sys2Proof.Machine.execEnable flag s
  | .feed data => Sys2Proof.Machine.execFeed data s
  | .get sel => Sys2Proof.Machine.execGet sel s
  | .status sel => Sys2Proof.Machine.execStatus sel s
  | .wdtInit timeout => Sys2Proof.Machine.execWdtInit timeout s
  | .wdtEnable flag => Sys2Proof.Machine.execWdtEnable flag s
  | .wdtCheck => Sys2Proof.Machine.execWdtCheck s
  | .setBaud code => Sys2Proof.Machine.execSetBaud code s
  | .setRate code => Sys2Proof.Machine.execSetRate code s
  | .setContent mask => Sys2Proof.Machine.execSetContent mask s
  | .setBandwidth code => Sys2Proof.Machine.execSetBandwidth code s
  | .accCalStart => Sys2Proof.Machine.execAccCalStart s
  | .accCalStop => Sys2Proof.Machine.execAccCalStop s
  | .magCalStart => Sys2Proof.Machine.execMagCalStart s
  | .magCalStop => Sys2Proof.Machine.execMagCalStop s
  | .manualCalEnter => Sys2Proof.Machine.execManualCalEnter s
  | .manualCalExit => Sys2Proof.Machine.execManualCalExit s
  | .zeroYaw => Sys2Proof.Machine.execZeroYaw s
  | .readReg addr => Sys2Proof.Machine.execReadReg addr s
  | .frameAcc f0 f1 f2 f3 sum => Sys2Proof.Machine.execFrameAcc f0 f1 f2 f3 sum s
  | .frameGyro f0 f1 f2 f3 sum => Sys2Proof.Machine.execFrameGyro f0 f1 f2 f3 sum s
  | .frameAngle f0 f1 f2 f3 sum => Sys2Proof.Machine.execFrameAngle f0 f1 f2 f3 sum s
  | .frameMag f0 f1 f2 f3 sum => Sys2Proof.Machine.execFrameMag f0 f1 f2 f3 sum s
  | .frameOther tag f0 f1 f2 f3 sum => Sys2Proof.Machine.execFrameOther tag f0 f1 f2 f3 sum s
  | .cmdUnlock => Sys2Proof.Machine.execCmdUnlock s
  | .cmdSave => Sys2Proof.Machine.execCmdSave s
  | .cmdReadReq addr => Sys2Proof.Machine.execCmdReadReq addr s
  | .cmdWrite addr data => Sys2Proof.Machine.execCmdWrite addr data s

end Sys2Proof.Machine
end

