-- ==== Sys2Proof/Machine/Fetch.lean ====
section
/-! DEFINITION. What a step runs: ENV's turn, the bytes each agent's port offers, and what follows the instruction. -/

namespace Sys2Proof.Machine

/-- An agent's turn is without a step of the pending sequence: a sequence is pending, and the turn is another agent's or its
settle wait has not passed (42_command_encoder.md R192; log 4). -/
def State.passedOver (s : State) (agent : Agent) : Bool :=
  decide (s.cePhase ≠ .idle ∧ ¬(agent = .sequencer ∧ s.sequencerEnabled = true))

/-- Begin a step: take ENV's turn, let its time pass (10_state.md R43), and count the turns in a row without a step of the
pending sequence (42_command_encoder.md R192; log 4). `now` is fixed for the rest of the step. -/
def State.beginTurn (s : State) : State :=
  let turn := s.nextTurn
  let s := { s.later turn.advance with turns := s.turns.tail, turnCount := s.turnCount + 1 }
  { s with skips := if s.passedOver turn.agent then s.skips + 1 else 0 }

/-- What an agent's turn comes to. -/
inductive Fetched where
  /-- Run this instruction in this state, from which its bytes are consumed. -/
  | run (i : Instr) (s : State)
  /-- No instruction of the table runs; the turn ends in this state. -/
  | settled (s : State)

/-- HOST's turn: the next operation of the HOST stream (R100). A reserved operation byte is consumed alone, changes nothing
and returns `E_PARAM` (R102; log 5). While an operation's bytes have not all arrived, HOST waits (log 10). -/
def State.fetchHost (s : State) : Fetched :=
  match decodeHost s.hostIn with
  | .ok (i, rest) => .run i { s with hostIn := rest }
  | .error (.reservedOperation _) => .settled ({ s with hostIn := s.hostIn.tail }.answer codeParam)
  | .error _ => .settled s

/-- The receive context's turn: a frame at the head of RX goes in as one FEED, any other byte as a FEED of that byte alone,
which makes no difference to the block (20_memory.md R73; log 9). -/
def State.fetchReceived (s : State) : Fetched :=
  match decodeFrame s.rxIn with
  | .ok (i, rest) => .run i { s with rxIn := rest }
  | .error _ =>
    match s.rxIn with
    | b :: rest => .run (.feed [b]) { s with rxIn := rest }
    | [] => .settled s

/-- The sequencer's turn: the frame of the enabled step, by its row of the table (30_encoding.md R114), or step 3, or nothing
(R190). A `CE_FRAME` that is no command frame, which no run reaches, is transmitted all the same. -/
def State.fetchSequencer (s : State) : Fetched :=
  match s.sequencerFrame with
  | none => .settled s.sequencerFinish
  | some c =>
    match decodeCommand c.bytes with
    | .ok (i, _) => .run i s
    | .error _ => .settled ((s.transmit c).sequencerAdvance s.nextTxAnswer)

/-- What an agent's turn comes to. -/
def State.fetch (s : State) (agent : Agent) : Fetched :=
  match agent with
  | .host => s.fetchHost
  | .receive => s.fetchReceived
  | .sequencer => s.fetchSequencer

/-- What follows an instruction: the sequencer, having transmitted its frame, goes on by ENV's answer (R190). `before` is the
state the instruction ran in. -/
def State.retire (s : State) (agent : Agent) (before : State) : State :=
  match agent with
  | .host => s
  | .receive => s
  | .sequencer => s.sequencerAdvance before.nextTxAnswer

/-- The state with a word of spec/opcode_table.json placed where its port's agent fetches next: a HOSTCMD first on HOST, a
FRAME11 first on RX, a CMD5 in `CE_FRAME` with its settle wait over; and that agent's turn next (log 16). -/
def State.placeWord (s : State) (format : Format) (bytes : List Byte) : State :=
  match format with
  | .hostcmd => { s with hostIn := bytes ++ s.hostIn, turns := ⟨0, .host⟩ :: s.turns }
  | .frame11 => { s with rxIn := bytes ++ s.rxIn, turns := ⟨0, .receive⟩ :: s.turns }
  | .cmd5 =>
    { s with
      ceFrame := ⟨bytes.getD 0 0, bytes.getD 1 0, bytes.getD 2 0, bytes.getD 3 0, bytes.getD 4 0⟩
      cePhase := .waitUnlock, ceT0 := s.now, params := { s.params with settleUnlock := 10 }
      turns := ⟨10, .sequencer⟩ :: s.turns }

end Sys2Proof.Machine
end

