-- ==== Sys2Proof/Machine/Step.lean ====
section
/-! DEFINITION. One atomic step of the machine (20_memory.md R68, R72): ENV's turn begins, the agent's instruction is fetched
and run, and the turn ends. -/

namespace Sys2Proof.Machine

/-- One atomic step: a host operation, a frame taken in from RX, or a step of the CE sequencer. -/
def step (s : State) : Host.Outcome State Fault Refusal :=
  let agent := s.nextTurn.agent
  match s.beginTurn.fetch agent with
  | .settled t => .next t
  | .run i before =>
    match exec i before with
    | .next t => .next (t.retire agent before)
    | .fault r => .fault r
    | .refused r => .refused r

/-- The state with an instruction of spec/opcode_table.json, given as its word, where the next step fetches (log 16). -/
def State.withFetchWord (s : State) (nbits w : Nat) : State := s.placeWord (tableWord nbits w).1 (tableWord nbits w).2

end Sys2Proof.Machine
end

