-- ==== Sys2Proof/Safety.lean ====
section
/-! DEFINITION. What claims are stated in: the invariants of 10_state.md R37 and R47, groups of registers for frames, the
operations a run should not rely on, and the value of a binary32 word. -/

namespace Sys2Proof.Machine

/-! ## Groups of fields -/

/-- The reading snapshot is the same: every register of R25 to R32. -/
abbrev SameSnapshot (s t : State) : Prop :=
  t.gyro = s.gyro ∧ t.angle = s.angle ∧ t.acc = s.acc ∧ t.mag = s.mag ∧ t.temp = s.temp ∧ t.version = s.version ∧
    t.ts = s.ts ∧ t.valid = s.valid

/-- The frame buffer state is the same: every register of R34 to R36. -/
abbrev SameFrameState (s t : State) : Prop := t.fb = s.fb ∧ t.cursor = s.cursor ∧ t.fstate = s.fstate

/-- The watchdog registers are the same: R38 to R41. -/
abbrev SameWatchdog (s t : State) : Prop :=
  t.wdLast = s.wdLast ∧ t.wdTimeout = s.wdTimeout ∧ t.wdEnabled = s.wdEnabled ∧ t.wdCount = s.wdCount

/-- The sequencer's registers are the same: R42, and the pending operation's mnemonic. -/
abbrev SameSequencer (s t : State) : Prop :=
  t.cePhase = s.cePhase ∧ t.ceFrame = s.ceFrame ∧ t.ceT0 = s.ceT0 ∧ t.ceOp = s.ceOp

/-- The lifecycle registers are the same: R22 to R24. -/
abbrev SameLifecycle (s t : State) : Prop :=
  t.created = s.created ∧ t.enabled = s.enabled ∧ t.respTimeout = s.respTimeout

/-- Every register of R21's table is the same. -/
abbrev SameRegisters (s t : State) : Prop :=
  SameLifecycle s t ∧ SameSnapshot s t ∧ SameFrameState s t ∧ SameWatchdog s t ∧ SameSequencer s t

/-- Every snapshot register is zero, `VALID` among them. -/
abbrev State.snapshotClear (s : State) : Prop :=
  s.gyro = Axes.zero ∧ s.angle = Axes.zero ∧ s.acc = Axes.zero ∧ s.mag = Axes.zero ∧ s.temp = 0 ∧ s.version = 0 ∧
    s.ts = 0 ∧ s.valid = false

/-! ## Invariants -/

/-- The frame-state invariant (R37). -/
abbrev State.frameInv (s : State) : Prop :=
  (s.fstate = .idle → s.cursor = 0) ∧
    (s.fstate = .receiving → 1 ≤ s.cursor.toNat ∧ s.cursor.toNat ≤ 10 ∧ s.fb.getD 0 0 = 0x55) ∧
    (s.fstate = .ready → s.cursor = 11 ∧ s.fb.getD 0 0 = 0x55 ∧ checksum s.fb = s.fb.getD 10 0) ∧
    (s.fstate = .error → s.cursor = 11 ∧ s.fb.getD 0 0 = 0x55 ∧ checksum s.fb ≠ s.fb.getD 10 0)

/-- The frame is the one R99's table gives a configuration operation: its register, and its data value with the operand in its
range (30_encoding.md R95, R99, R107). -/
def ConfigWrite (p : Params) (op : ConfigOp) (c : CmdFrame) : Prop :=
  match op with
  | .setBaud => ∃ code : Byte, 1 ≤ code.toNat ∧ code.toNat ≤ 7 ∧ c = ⟨0xFF, 0xAA, p.regBaud, code, 0x00⟩
  | .setRate =>
    ∃ code : Byte, 1 ≤ code.toNat ∧ code.toNat ≤ 13 ∧ code.toNat ≠ 10 ∧ c = ⟨0xFF, 0xAA, p.regRate, code, 0x00⟩
  | .setContent => ∃ mask : Byte, 1 ≤ mask.toNat ∧ c = ⟨0xFF, 0xAA, p.regContent, mask, 0x00⟩
  | .setBandwidth => ∃ code : Byte, code.toNat ≤ 6 ∧ c = ⟨0xFF, 0xAA, p.regBandwidth, code, 0x00⟩
  | .accCalStart => c = ⟨0xFF, 0xAA, p.regCalsw, 0x01, 0x00⟩
  | .accCalStop => c = ⟨0xFF, 0xAA, p.regCalsw, 0x00, 0x00⟩
  | .magCalStart => c = ⟨0xFF, 0xAA, p.regCalsw, 0x07, 0x00⟩
  | .magCalStop => c = ⟨0xFF, 0xAA, p.regCalsw, 0x00, 0x00⟩
  | .manualCalEnter => c = ⟨0xFF, 0xAA, p.regManualcal, 0x01, 0x00⟩
  | .manualCalExit => c = ⟨0xFF, 0xAA, p.regManualcal, 0x04, 0x00⟩
  | .zeroYaw => c = ⟨0xFF, 0xAA, p.regYawzero, 0x00, 0x00⟩

/-- Every register but `CREATED` holds its power-on value (R47, R340). -/
abbrev State.atPowerOn (s : State) : Prop :=
  s.enabled = false ∧ s.respTimeout = 0 ∧ s.snapshotClear ∧ s.fb = Vector.replicate 11 0 ∧ s.cursor = 0 ∧
    s.fstate = .idle ∧ s.wdLast = 0 ∧ s.wdTimeout = 0 ∧ s.wdEnabled = false ∧ s.wdCount = 0 ∧ s.cePhase = .idle ∧
    s.ceFrame = ⟨0, 0, 0, 0, 0⟩ ∧ s.ceT0 = 0

/-- The block's invariant: R37 and R47's statements about one state, the watchdog window of R39, the response timeout of R24
and R7, and a pending sequence's write frame (R190, 30_encoding.md R99). -/
structure State.Inv (s : State) : Prop where
  /-- R37. -/
  frame : s.frameInv
  /-- R47: `CREATED = 0` implies that every other register holds its POR value. -/
  uncreated : s.created = false → s.atPowerOn
  /-- R47: created and disabled, so no snapshot register has been written since and all are zero. -/
  disabled : s.created = true → s.enabled = false → s.snapshotClear
  /-- 44_lifecycle_accessors.md R264: `VALID = 1` implies `CREATED = 1` and `ENABLED = 1`. -/
  valid : s.valid = true → s.created = true ∧ s.enabled = true
  /-- R47: `CE_PHASE = CE_IDLE` or `CREATED = 1`. -/
  phase : s.cePhase = .idle ∨ s.created = true
  /-- A pending sequence's frame is the write frame of the operation that `Done` will name (R190, 30_encoding.md R99). -/
  pendingFrame : s.cePhase ≠ .idle → ConfigWrite s.params s.ceOp s.ceFrame
  /-- R39: `WD_TIMEOUT` is 0 or within the bounds. -/
  window : s.wdTimeout = 0 ∨ 500 ≤ s.wdTimeout.toNat ∧ s.wdTimeout.toNat ≤ 30000
  /-- R24: once created, the response timeout is nonzero. -/
  timeout : s.created = true → s.respTimeout ≠ 0
  /-- R7's bounds on the OPEN parameters. -/
  params : s.params.wf

/-! ## Reserved encodings (93_implementation_defined.md U6) -/

/-- An operation byte outside R100's table (R102). -/
abbrev reservedOperation (op : Byte) : Prop :=
  op.toNat = 0x00 ∨ (0x06 ≤ op.toNat ∧ op.toNat ≤ 0x0F) ∨ (0x13 ≤ op.toNat ∧ op.toNat ≤ 0x1F) ∨ 0x2C ≤ op.toNat

/-- A GET selector outside R103's table. -/
abbrev reservedGetSelector (sel : Byte) : Prop := 0x10 ≤ sel.toNat

/-- A STATUS selector outside R104's table. -/
abbrev reservedStatusSelector (sel : Byte) : Prop := (0x0B ≤ sel.toNat ∧ sel.toNat ≤ 0x0F) ∨ 0x1B ≤ sel.toNat

/-- An instruction whose answer a program should not rely on: "a model does not rely on those answers" (U6; log 6). -/
def reliesOnReserved (i : Instr) : Prop :=
  match i with
  | .get sel => reservedGetSelector sel
  | .status sel => reservedStatusSelector sel
  | .create _ _ | .enable _ | .wdtInit _ | .wdtEnable _ | .wdtCheck | .setBaud _ | .setRate _ | .setContent _
  | .setBandwidth _ | .accCalStart | .accCalStop | .magCalStart | .magCalStop | .manualCalEnter | .manualCalExit
  | .zeroYaw | .readReg _ | .cmdUnlock | .cmdSave | .cmdReadReq _ | .cmdWrite _ _
  | .feed _ | .frameAcc _ _ _ _ _ | .frameGyro _ _ _ _ _ | .frameAngle _ _ _ _ _ | .frameMag _ _ _ _ _
  | .frameOther _ _ _ _ _ _ => False

/-- The next step relies on no reserved encoding: it consumes no reserved operation byte and runs no reserved selector. -/
def State.admitted (s : State) : Prop :=
  match s.beginTurn.fetch s.nextTurn.agent with
  | .run i _ => ¬reliesOnReserved i
  | .settled _ => s.nextTurn.agent = .host → ∀ op rest, s.hostIn = op :: rest → ¬reservedOperation op

/-! ## What an instruction does to a state in claims -/

/-- The instruction carries received bytes into the block: FEED and the FRAME11 rows (40_frame_assembler.md R130). -/
def isIngestion (i : Instr) : Prop :=
  match i with
  | .feed _ | .frameAcc _ _ _ _ _ | .frameGyro _ _ _ _ _ | .frameAngle _ _ _ _ _ | .frameMag _ _ _ _ _
  | .frameOther _ _ _ _ _ _ => True
  | .get _ | .status _
  | .create _ _ | .enable _ | .wdtInit _ | .wdtEnable _ | .wdtCheck | .setBaud _ | .setRate _ | .setContent _
  | .setBandwidth _ | .accCalStart | .accCalStop | .magCalStart | .magCalStop | .manualCalEnter | .manualCalExit
  | .zeroYaw | .readReg _ | .cmdUnlock | .cmdSave | .cmdReadReq _ | .cmdWrite _ _ => False

/-- The eleven bytes of a frame as a buffer. -/
def frameVector (tag : Byte) (f0 f1 f2 f3 : Half) (sum : Byte) : Vector Byte 11 :=
  #v[0x55, tag, lowByte f0, highByte f0, lowByte f1, highByte f1, lowByte f2, highByte f2, lowByte f3, highByte f3, sum]

/-- `f_k` of the frame in a buffer: its bytes at `3 + 2k` and `2 + 2k`, high byte first (30_encoding.md R94). -/
def frameField (fb : Vector Byte 11) (k : Nat) : Nat :=
  (fb.getD (3 + 2 * k) 0).toNat * 256 + (fb.getD (2 + 2 * k) 0).toNat

/-- `raw_k` of the frame in a buffer (30_encoding.md R94). -/
def frameRaw (fb : Vector Byte 11) (k : Nat) : Int :=
  if frameField fb k < 32768 then frameField fb k else (frameField fb k : Int) - 65536

/-- The checksum a frame's first ten bytes call for (30_encoding.md R92). -/
def frameSum (tag : Byte) (f0 f1 f2 f3 : Half) : Byte :=
  0x55 + tag + lowByte f0 + highByte f0 + lowByte f1 + highByte f1 + lowByte f2 + highByte f2 + lowByte f3 + highByte f3

/-- The state with an operation's result on HOST and nothing else changed. -/
def State.answered (s : State) (code : Word) : State := { s with out := s.out ++ [.result code] }

/-- The state after a transmit request of `c` and then the outputs `more`: the request carries `RESP_TIMEOUT` and ENV's next
answer (42_command_encoder.md R191), and no register is written. -/
def State.sent (s : State) (c : CmdFrame) (more : List Output) : State :=
  { s with
    out := s.out ++ .tx c s.respTimeout s.nextTxAnswer :: more
    txAnswers := s.txAnswers.tail, txCount := s.txCount + 1 }

/-- The unlock frame, as 30_encoding.md R96 writes it. -/
def unlockBytes : CmdFrame := ⟨0xFF, 0xAA, 0x69, 0x88, 0xB5⟩

/-- The save frame, as 30_encoding.md R97 writes it. -/
def saveBytes : CmdFrame := ⟨0xFF, 0xAA, 0x00, 0x00, 0x00⟩

/-- What 42_command_encoder.md R190, R193 and R206 say of a configuration operation's issue step, for an operation `i` that
`Done` names `op`, whose write frame is `FF AA reg dl dh`, and whose operand is in range where `inRange` holds. -/
def ConfigurationOperation (i : Instr) (op : ConfigOp) (reg : Params → Byte) (dl dh : Byte) (inRange : Prop) : Prop :=
  ∀ s : State,
    (s.created = false ∨ s.enabled = false ∨ s.cePhase ≠ .idle → exec i s = .next (s.answered 0xFFFFFFFE)) ∧
    (s.created = true → s.enabled = true → s.cePhase = .idle → ¬inRange → exec i s = .next (s.answered 0xFFFFFFFF)) ∧
    (s.created = true → s.enabled = true → s.cePhase = .idle → inRange → ∀ n, s.nextTxAnswer = .fail n →
      exec i s = .next (s.sent unlockBytes [.result 0xFFFFFFFD])) ∧
    (s.created = true → s.enabled = true → s.cePhase = .idle → inRange → s.nextTxAnswer = .ok →
      exec i s = .next
        { s.sent unlockBytes [] with
          ceFrame := ⟨0xFF, 0xAA, reg s.params, dl, dh⟩, ceT0 := s.now, cePhase := .waitUnlock, ceOp := op })

/-- The instructions run one after another, stopping at the first that does not answer a next state. -/
def execAll (is : List Instr) (s : State) : Host.Outcome State Fault Refusal :=
  match is with
  | [] => .next s
  | i :: is =>
    match exec i s with
    | .next t => execAll is t
    | .fault r => .fault r
    | .refused r => .refused r

/-! ## The value of a binary32 word -/

/-- A binary32 word that encodes zero as +0.0 or a finite normal number: no NaN, infinity, subnormal or -0.0
(41_packet_decoder.md R172). -/
abbrev plainFloat (w : Word) : Prop := w = 0 ∨ (1 ≤ w.toNat / 2 ^ 23 % 256 ∧ w.toNat / 2 ^ 23 % 256 ≤ 254)

/-- The value of such a word, as `num / 2 ^ 149`: IEEE 754's sign, biased exponent and fraction. -/
def floatNumerator (w : Word) : Int :=
  let magnitude : Nat :=
    if w = 0 then 0 else (2 ^ 23 + w.toNat % 2 ^ 23) * 2 ^ (w.toNat / 2 ^ 23 % 256 - 1)
  if w.toNat / 2 ^ 31 = 1 then -(magnitude : Int) else magnitude

/-- The distance of a plain word's value from `num / den`, as a multiple of `1 / (den * 2 ^ 149)`. -/
def floatDistance (w : Word) (num : Int) (den : Nat) : Nat := (floatNumerator w * den - num * 2 ^ 149).natAbs

/-- A plain word is `num / den` rounded: its value is no further from `num / den` than half a unit in its last place, and its
significand is even where it is just as far (00_scope.md R12). -/
def RoundedWord (w : Word) (num : Int) (den : Nat) : Prop :=
  plainFloat w ∧ 2 * floatDistance w num den ≤ den * 2 ^ (w.toNat / 2 ^ 23 % 256 - 1) ∧
    (2 * floatDistance w num den = den * 2 ^ (w.toNat / 2 ^ 23 % 256 - 1) → w.toNat % 2 = 0)

end Sys2Proof.Machine
end

