-- ==== Sys2Proof/Certificates/Slice0/Obligations.lean ====
section
/-! DEFINITION. The statements about the block, from the numbered rules of spec/. -/

open Sys2Proof Sys2Proof.Machine

/-! ## Encoding -/

/-- Decoding an encoded well-formed instruction gives it back, with what follows it (R90, R100, R101, R91, R95, R114). -/
def Obligations.DecodeOfEncodeIsTheInstruction : Prop :=
  ∀ (i : Instr) (rest : List Byte), i.wf = true → decode i.format (encode i ++ rest) = .ok (i, rest)

/-- What a decoder reads is well-formed, is of its format, and is encoded by exactly the bytes it was read from. -/
def Obligations.DecodedBytesAreTheEncoding : Prop :=
  ∀ (f : Format) (bytes : List Byte) (i : Instr) (rest : List Byte), decode f bytes = .ok (i, rest) →
    i.wf = true ∧ i.format = f ∧ bytes = encode i ++ rest

/-- The decoder rejects by name exactly the operation bytes R102 lists as reserved. -/
def Obligations.ReservedOperationBytesAreRejectedByName : Prop :=
  ∀ (op : Byte) (rest : List Byte),
    decodeHost (op :: rest) = .error (.reservedOperation op) ↔ reservedOperation op

/-- A sanity statement: words written out in 95_test_vectors.md decode to what they stand for. -/
def Obligations.SpecWordsDecode : Prop :=
  decodeHost [0x01, 0x01, 0x00, 0x00, 0x00, 0x00] = .ok (.create 1 0, []) ∧
    decodeHost [0x10, 0xE8, 0x03, 0x00, 0x00] = .ok (.wdtInit 1000, []) ∧
    decodeHost [0x21, 0x0A, 0x00, 0x00, 0x00] = .ok (.setRate 10, []) ∧
    decodeHost [0x03, 0x05, 0x00, 0x55, 0x51, 0x00, 0x08, 0x00] = .ok (.feed [0x55, 0x51, 0x00, 0x08, 0x00], []) ∧
    decodeFrame [0x55, 0x54, 0x64, 0x00, 0x9C, 0xFF, 0x00, 0x00, 0x54, 0x01, 0xFD] =
      .ok (.frameMag 100 (-100) 0 340 0xFD, []) ∧
    decodeCommand [0xFF, 0xAA, 0x27, 0x34, 0x00] = .ok (.cmdReadReq 0x34, [])

/-! ## A step runs the decoded instruction -/

/-- On HOST's turn, a step runs the operation at the head of the HOST stream, in the state ENV's turn leaves, its bytes
consumed. -/
def Obligations.StepRunsTheHostOperation : Prop :=
  ∀ (s : State) (i : Instr) (rest : List Byte), s.nextTurn.agent = .host → s.hostIn = encode i ++ rest → i.wf = true →
    i.format = .hostcmd → step s = exec i { s.beginTurn with hostIn := rest }

/-- On the receive context's turn, a step runs the frame at the head of RX, its bytes consumed. The RX queue and its turn are
the model's (log 9). -/
def Obligations.StepRunsTheReceivedFrame : Prop :=
  ∀ (s : State) (i : Instr) (rest : List Byte), s.nextTurn.agent = .receive → s.rxIn = encode i ++ rest → i.wf = true →
    i.format = .frame11 → step s = exec i { s.beginTurn with rxIn := rest }

/-- The rest of the receive context's turn: where no whole frame stands at the head of RX, its first byte goes in as a FEED of
that byte alone, and where RX is empty nothing but ENV's turn happens. The model's choice (log 9). -/
def Obligations.ReceiveTurnFeedsOneByte : Prop :=
  ∀ s : State, s.nextTurn.agent = .receive →
    (∀ (b : Byte) (rest : List Byte), s.rxIn = b :: rest → b ≠ 0x55 ∨ s.rxIn.length < 11 →
        step s = exec (.feed [b]) { s.beginTurn with rxIn := rest }) ∧
      (s.rxIn = [] → step s = .next s.beginTurn)

/-- On the sequencer's turn, where a step that transmits is enabled, a step runs the command row of its frame, and the
sequencer then goes on by ENV's answer to it (R190, R114). That a CMD5 row runs as its transmit request, and so that the
sequencer's step runs the row, is the model's reading (log 8). -/
def Obligations.StepRunsTheSequencerFrame : Prop :=
  ∀ (s t : State) (c : CmdFrame) (i : Instr), s.nextTurn.agent = .sequencer → s.beginTurn.sequencerFrame = some c →
    c.bytes = encode i → i.wf = true → i.format = .cmd5 → exec i s.beginTurn = .next t →
      step s = .next (t.sequencerAdvance s.beginTurn.nextTxAnswer)

/-- ENV's turn lets its time pass and changes no register, no waiting byte, no answer and no output. -/
def Obligations.TurnOnlyLetsTimePass : Prop :=
  ∀ s : State, SameRegisters s s.beginTurn ∧ s.beginTurn.tAbs = s.tAbs + s.nextTurn.advance ∧
    s.beginTurn.hostIn = s.hostIn ∧ s.beginTurn.rxIn = s.rxIn ∧ s.beginTurn.out = s.out ∧
    s.beginTurn.txAnswers = s.txAnswers ∧ s.beginTurn.reinitAnswers = s.reinitAnswers ∧ s.beginTurn.params = s.params

/-- The block's stated answer to a reserved operation byte: nothing changes, `E_PARAM`, one byte consumed (30_encoding.md R102,
60_exceptions.md R309, U6). That the model answers instead of refusing is its choice (log 5). -/
def Obligations.ReservedOperationReturnsParameterError : Prop :=
  ∀ (s : State) (op : Byte) (rest : List Byte), s.nextTurn.agent = .host → s.hostIn = op :: rest → reservedOperation op →
    step s = .next ({ s.beginTurn with hostIn := rest }.answered 0xFFFFFFFF)

/-- While the operation at the head of HOST has not arrived whole, HOST's turn changes nothing. The model's choice (log 10). -/
def Obligations.IncompleteOperationWaits : Prop :=
  ∀ s : State, s.nextTurn.agent = .host → decodeHost s.hostIn = .error .incomplete → step s = .next s.beginTurn

/-! ## Reset and invariants -/

/-- At power-on every register holds its POR value (R340). -/
def Obligations.PowerOnValues : Prop := State.reset.created = false ∧ State.reset.atPowerOn

/-- The power-on state meets the invariant. -/
def Obligations.PowerOnMeetsTheInvariant : Prop := State.reset.Inv

/-- Every step keeps the invariant: R37's frame-state invariant and R47's statements among it. -/
def Obligations.StepKeepsTheInvariant : Prop := ∀ s t : State, s.Inv → step s = .next t → t.Inv

/-- The block never stops: every step answers a next state (R300, R356). That no step refuses, in every state, rests on the
model's choices: a reserved operation byte is answered (log 5), a reserved selector is answered (log 6), an operation whose
bytes are missing waits (log 10), and the types of stops are empty but for `notModelled` (log 14). -/
def Obligations.EveryStepAnswersNext : Prop := ∀ s : State, ∃ t, step s = .next t

/-- `WD_COUNT` never decreases (R41, R47, R236). -/
def Obligations.RecoveryCounterNeverDecreases : Prop :=
  ∀ s t : State, s.Inv → step s = .next t → s.wdCount.toNat ≤ t.wdCount.toNat

/-- Nothing clears `CREATED` (R22); time never runs back (R43); outputs are only appended (R44); the parameters are fixed (R7). -/
def Obligations.HistoryOnlyGrows : Prop :=
  ∀ s t : State, step s = .next t →
    (s.created = true → t.created = true) ∧ s.tAbs ≤ t.tAbs ∧ (∃ new, t.out = s.out ++ new) ∧ t.params = s.params

/-- Egress is closed: what a step puts on TX is the unlock, save or read-request frame or, in `CE_WAIT_UNLOCK`, `CE_FRAME`, which
in a state that meets the invariant is the write frame R99's table gives the pending operation; and the request carries
`RESP_TIMEOUT` (R109, R99, R191, R24). -/
def Obligations.EgressIsClosed : Prop :=
  ∀ (s t : State) (new : List Output) (c : CmdFrame) (timeout : Word) (answer : TxAnswer), step s = .next t →
    t.out = s.out ++ new → .tx c timeout answer ∈ new →
      timeout = s.respTimeout ∧
        (c = unlockBytes ∨ c = saveBytes ∨ (∃ r, c = ⟨0xFF, 0xAA, 0x27, r, 0x00⟩) ∨
          s.cePhase = .waitUnlock ∧ c = s.ceFrame ∧ (s.Inv → ConfigWrite s.params s.ceOp c))

/-- Nothing a host does cancels a pending sequence: no instruction of the table changes the sequencer's registers while a
sequence is pending in a created block (R210, R208). -/
def Obligations.NoInstructionDisturbsAPendingSequence : Prop :=
  ∀ (i : Instr) (s t : State), s.created = true → s.cePhase ≠ .idle → exec i s = .next t → SameSequencer s t

/-- A control register is written only by its own operation (R22, R23, R24, R39, R40, R41). -/
def Obligations.ControlRegistersHaveOneWriter : Prop :=
  ∀ (i : Instr) (s t : State), s.Inv → exec i s = .next t →
    (t.created ≠ s.created ∨ t.respTimeout ≠ s.respTimeout → ∃ tp timeout, i = .create tp timeout) ∧
      (t.enabled ≠ s.enabled → ∃ flag, i = .enable flag) ∧
      (t.wdTimeout ≠ s.wdTimeout → ∃ timeout, i = .wdtInit timeout) ∧
      (t.wdEnabled ≠ s.wdEnabled → ∃ flag, i = .wdtEnable flag) ∧
      (t.wdCount ≠ s.wdCount → i = .wdtCheck)

/-- Only received bytes and ENABLE write the measurements and the frame state; a recovery withdraws `VALID`, resets the frame
state and keeps the rest (R25 to R33, R343). CREATE rewrites what is already zero. -/
def Obligations.MeasurementsComeFromReceivedBytes : Prop :=
  ∀ (i : Instr) (s t : State), s.Inv → ¬isIngestion i → (∀ flag, i ≠ .enable flag) → exec i s = .next t →
    t.gyro = s.gyro ∧ t.angle = s.angle ∧ t.acc = s.acc ∧ t.mag = s.mag ∧ t.temp = s.temp ∧ t.version = s.version ∧
      t.ts = s.ts ∧ t.fb = s.fb ∧ (i ≠ .wdtCheck → t.valid = s.valid ∧ t.cursor = s.cursor ∧ t.fstate = s.fstate)

/-- A rejected operation changes no register and puts nothing on TX, TR or DIAG: where `E_PARAM` or `E_STATE` is among what an
instruction puts out, that result is all it does (R311). -/
def Obligations.RejectionChangesNothing : Prop :=
  ∀ (i : Instr) (s t : State) (new : List Output) (code : Word), exec i s = .next t → t.out = s.out ++ new →
    .result code ∈ new → code = 0xFFFFFFFF ∨ code = 0xFFFFFFFE → t = s.answered code

/-! ## The frame assembler -/

/-- FEED's three results, and its byte steps in order (R130, R140). -/
def Obligations.FeedFollowsItsRule : Prop :=
  ∀ (data : List Byte) (s : State),
    (s.created = false ∨ s.enabled = false → exec (.feed data) s = .next (s.answered 0xFFFFFFFE)) ∧
      (s.created = true → s.enabled = true → data = [] → exec (.feed data) s = .next (s.answered 0xFFFFFFFF)) ∧
      (s.created = true → s.enabled = true → data ≠ [] →
        exec (.feed data) s = .next ((data.foldl State.byteStep s).answered 0))

/-- The frame of FEED: the lifecycle, watchdog-configuration and sequencer registers, the inputs and ENV's choices are
unchanged, and one result is all it puts out (R130). -/
def Obligations.FeedWritesNothingElse : Prop :=
  ∀ (data : List Byte) (s t : State), exec (.feed data) s = .next t →
    SameLifecycle s t ∧ SameSequencer s t ∧ t.wdTimeout = s.wdTimeout ∧ t.wdEnabled = s.wdEnabled ∧
      t.wdCount = s.wdCount ∧ t.tAbs = s.tAbs ∧ t.hostIn = s.hostIn ∧ t.rxIn = s.rxIn ∧ t.params = s.params ∧
      t.turns = s.turns ∧ t.txAnswers = s.txAnswers ∧ t.reinitAnswers = s.reinitAnswers ∧
      ∃ code, t.out = s.out ++ [.result code]

/-- The header scan: in IDLE a byte `0x55` starts a frame and every other byte is discarded (R132). -/
def Obligations.IdleScansForTheHeader : Prop :=
  ∀ (s : State) (b : Byte), s.fstate = .idle →
    (b = 0x55 → s.byteStep b = { s with fb := s.fb.setIfInBounds 0 0x55, cursor := 1, fstate := .receiving }) ∧
      (b ≠ 0x55 → s.byteStep b = s)

/-- Inside a frame any byte is appended at the cursor, `0x55` too (R133, R141). -/
def Obligations.ReceivingAppendsEveryByte : Prop :=
  ∀ (s : State) (b : Byte), s.fstate = .receiving → 1 ≤ s.cursor.toNat → s.cursor.toNat ≤ 9 →
    s.byteStep b = { s with fb := s.fb.setIfInBounds s.cursor.toNat b, cursor := s.cursor + 1 }

/-- The eleventh byte decides, whenever it comes: on a mismatch FRAME_ERROR and nothing else; on a match FRAME_READY and
`WD_LAST`, whatever the tag, then for a known tag its field group, `TS` and `VALID` with this step's `now`, for another tag
nothing, and no other register in either case (R134, R136, R137, R160, R164 to R169). -/
def Obligations.EleventhByteIsTheChecksum : Prop :=
  ∀ (s : State) (b : Byte), s.fstate = .receiving → s.cursor = 10 →
    (checksum (s.fb.setIfInBounds 10 b) ≠ b →
        s.byteStep b = { s with fb := s.fb.setIfInBounds 10 b, cursor := 11, fstate := .error }) ∧
      (checksum (s.fb.setIfInBounds 10 b) = b →
        (s.byteStep b).fb = s.fb.setIfInBounds 10 b ∧ (s.byteStep b).cursor = 11 ∧ (s.byteStep b).fstate = .ready ∧
          (s.byteStep b).wdLast = s.now) ∧
      (checksum (s.fb.setIfInBounds 10 b) = b → s.fb.getD 1 0 = 0x51 →
        s.byteStep b =
          { s with
            fb := s.fb.setIfInBounds 10 b, cursor := 11, fstate := .ready, wdLast := s.now, ts := s.now, valid := true
            acc := ⟨fl32 ⟨frameRaw s.fb 0 * 16, 32768⟩, fl32 ⟨frameRaw s.fb 1 * 16, 32768⟩,
              fl32 ⟨frameRaw s.fb 2 * 16, 32768⟩⟩
            temp := tempConv s.params.tempEval (frameRaw s.fb 3) }) ∧
      (checksum (s.fb.setIfInBounds 10 b) = b → s.fb.getD 1 0 = 0x52 →
        s.byteStep b =
          { s with
            fb := s.fb.setIfInBounds 10 b, cursor := 11, fstate := .ready, wdLast := s.now, ts := s.now, valid := true
            gyro := ⟨fl32 ⟨frameRaw s.fb 0 * 2000, 32768⟩, fl32 ⟨frameRaw s.fb 1 * 2000, 32768⟩,
              fl32 ⟨frameRaw s.fb 2 * 2000, 32768⟩⟩ }) ∧
      (checksum (s.fb.setIfInBounds 10 b) = b → s.fb.getD 1 0 = 0x53 →
        s.byteStep b =
          { s with
            fb := s.fb.setIfInBounds 10 b, cursor := 11, fstate := .ready, wdLast := s.now, ts := s.now, valid := true
            angle := ⟨fl32 ⟨frameRaw s.fb 0 * 180, 32768⟩, fl32 ⟨frameRaw s.fb 1 * 180, 32768⟩,
              fl32 ⟨frameRaw s.fb 2 * 180, 32768⟩⟩
            version := BitVec.ofNat 16 (frameField s.fb 3) }) ∧
      (checksum (s.fb.setIfInBounds 10 b) = b → s.fb.getD 1 0 = 0x54 →
        s.byteStep b =
          { s with
            fb := s.fb.setIfInBounds 10 b, cursor := 11, fstate := .ready, wdLast := s.now, ts := s.now, valid := true
            mag := ⟨fl32 ⟨frameRaw s.fb 0, 1⟩, fl32 ⟨frameRaw s.fb 1, 1⟩, fl32 ⟨frameRaw s.fb 2, 1⟩⟩
            temp := tempConv s.params.tempEval (frameRaw s.fb 3) }) ∧
      (checksum (s.fb.setIfInBounds 10 b) = b →
        (s.fb.getD 1 0).toNat < 0x51 ∨ 0x54 < (s.fb.getD 1 0).toNat →
        s.byteStep b =
          { s with fb := s.fb.setIfInBounds 10 b, cursor := 11, fstate := .ready, wdLast := s.now })

/-- A terminal state handles its next byte as IDLE with the cursor at 0 would (R138, R144). -/
def Obligations.TerminalStatesReplayTheByte : Prop :=
  ∀ (s : State) (b : Byte), s.fstate = .ready ∨ s.fstate = .error →
    s.byteStep b = { s with fstate := .idle, cursor := 0 }.byteStep b

/-- A cursor out of range in RECEIVING goes back to IDLE, and the byte is scanned (R139). -/
def Obligations.OverflowScansTheByte : Prop :=
  ∀ (s : State) (b : Byte), s.fstate = .receiving → s.cursor.toNat = 0 ∨ 10 < s.cursor.toNat →
    s.byteStep b = { s with fstate := .idle, cursor := 0 }.byteStep b

/-- Framing does not depend on the chunks: in any state, FEEDs of non-empty chunks leave what one FEED of their bytes leaves
(R73). -/
def Obligations.FramingIsChunkSizeIndependent : Prop :=
  ∀ (s : State) (chunks : List (List Byte)), (∀ c ∈ chunks, c ≠ []) →
    ∃ t u, execAll (chunks.map Instr.feed) s = .next t ∧ exec (.feed chunks.flatten) s = .next u ∧
      SameFrameState t u ∧ SameSnapshot t u ∧ t.wdLast = u.wdLast

/-! ## The packet decoder -/

/-- An acceleration frame with a good checksum, from a state that is not inside a frame (R164, R169, R134). That the row runs as
the FEED of its bytes is the model's reading (log 7). -/
def Obligations.AccelerationFrameIsDecoded : Prop :=
  ∀ (s : State) (f0 f1 f2 f3 : Half), s.created = true → s.enabled = true → s.fstate ≠ .receiving →
    exec (.frameAcc f0 f1 f2 f3 (frameSum 0x51 f0 f1 f2 f3)) s = .next
      { s with
        acc := ⟨fl32 ⟨f0.toInt * 16, 32768⟩, fl32 ⟨f1.toInt * 16, 32768⟩, fl32 ⟨f2.toInt * 16, 32768⟩⟩
        temp := tempConv s.params.tempEval f3.toInt
        ts := s.now, valid := true, wdLast := s.now
        fb := frameVector 0x51 f0 f1 f2 f3 (frameSum 0x51 f0 f1 f2 f3), cursor := 11, fstate := .ready
        out := s.out ++ [.result 0] }

/-- A gyroscope frame with a good checksum, from a state that is not inside a frame (R165, R169, R134). That the row runs as
the FEED of its bytes is the model's reading (log 7). -/
def Obligations.GyroscopeFrameIsDecoded : Prop :=
  ∀ (s : State) (f0 f1 f2 f3 : Half), s.created = true → s.enabled = true → s.fstate ≠ .receiving →
    exec (.frameGyro f0 f1 f2 f3 (frameSum 0x52 f0 f1 f2 f3)) s = .next
      { s with
        gyro := ⟨fl32 ⟨f0.toInt * 2000, 32768⟩, fl32 ⟨f1.toInt * 2000, 32768⟩, fl32 ⟨f2.toInt * 2000, 32768⟩⟩
        ts := s.now, valid := true, wdLast := s.now
        fb := frameVector 0x52 f0 f1 f2 f3 (frameSum 0x52 f0 f1 f2 f3), cursor := 11, fstate := .ready
        out := s.out ++ [.result 0] }

/-- An orientation frame with a good checksum, from a state that is not inside a frame (R166, R169, R134). That the row runs as
the FEED of its bytes is the model's reading (log 7). -/
def Obligations.OrientationFrameIsDecoded : Prop :=
  ∀ (s : State) (f0 f1 f2 f3 : Half), s.created = true → s.enabled = true → s.fstate ≠ .receiving →
    exec (.frameAngle f0 f1 f2 f3 (frameSum 0x53 f0 f1 f2 f3)) s = .next
      { s with
        angle := ⟨fl32 ⟨f0.toInt * 180, 32768⟩, fl32 ⟨f1.toInt * 180, 32768⟩, fl32 ⟨f2.toInt * 180, 32768⟩⟩
        version := f3
        ts := s.now, valid := true, wdLast := s.now
        fb := frameVector 0x53 f0 f1 f2 f3 (frameSum 0x53 f0 f1 f2 f3), cursor := 11, fstate := .ready
        out := s.out ++ [.result 0] }

/-- A magnetic-field frame with a good checksum, from a state that is not inside a frame (R167, R169, R134). That the row runs as
the FEED of its bytes is the model's reading (log 7). -/
def Obligations.MagneticFrameIsDecoded : Prop :=
  ∀ (s : State) (f0 f1 f2 f3 : Half), s.created = true → s.enabled = true → s.fstate ≠ .receiving →
    exec (.frameMag f0 f1 f2 f3 (frameSum 0x54 f0 f1 f2 f3)) s = .next
      { s with
        mag := ⟨fl32 ⟨f0.toInt, 1⟩, fl32 ⟨f1.toInt, 1⟩, fl32 ⟨f2.toInt, 1⟩⟩
        temp := tempConv s.params.tempEval f3.toInt
        ts := s.now, valid := true, wdLast := s.now
        fb := frameVector 0x54 f0 f1 f2 f3 (frameSum 0x54 f0 f1 f2 f3), cursor := 11, fstate := .ready
        out := s.out ++ [.result 0] }

/-- A frame of any other tag with a good checksum feeds the watchdog and writes nothing of the snapshot (R168, R136). That the
row runs as the FEED of its bytes is the model's reading (log 7). -/
def Obligations.OtherFrameOnlyFeedsTheWatchdog : Prop :=
  ∀ (s : State) (tag : Byte) (f0 f1 f2 f3 : Half), s.created = true → s.enabled = true → s.fstate ≠ .receiving →
    tag.toNat < 0x51 ∨ 0x54 < tag.toNat →
    exec (.frameOther tag f0 f1 f2 f3 (frameSum tag f0 f1 f2 f3)) s = .next
      { s with
        wdLast := s.now
        fb := frameVector tag f0 f1 f2 f3 (frameSum tag f0 f1 f2 f3), cursor := 11, fstate := .ready
        out := s.out ++ [.result 0] }

/-- A frame of any row with a wrong checksum leaves FRAME_ERROR: snapshot, `VALID` and `WD_LAST` are not written, and the
result is `OK` all the same (R137, R140). That the rows run as the FEED of their bytes is the model's reading (log 7). -/
def Obligations.CorruptFrameIsDiscarded : Prop :=
  ∀ (s : State) (tag : Byte) (f0 f1 f2 f3 : Half) (sum : Byte), s.created = true → s.enabled = true →
    s.fstate ≠ .receiving → sum ≠ frameSum tag f0 f1 f2 f3 →
    exec (classifyFrame tag f0 f1 f2 f3 sum) s = .next
      { s with
        fb := frameVector tag f0 f1 f2 f3 sum, cursor := 11, fstate := .error
        out := s.out ++ [.result 0] }

/-- A FRAME11 row runs, in every state, as the FEED of its bytes: the model's reading (log 7) of R91 and R111. -/
def Obligations.FrameRunsAsTheFeedOfItsBytes : Prop :=
  ∀ (i : Instr) (s : State), i.format = .frame11 → exec i s = exec (.feed (encode i)) s

/-- The four linear conversions are exact and give no NaN, infinity, subnormal or -0.0 (R162, R172). -/
def Obligations.LinearConversionsAreExact : Prop :=
  ∀ r : Half,
    plainFloat (gyroConv r.toInt) ∧ floatNumerator (gyroConv r.toInt) * 32768 = r.toInt * 2000 * 2 ^ 149 ∧
      plainFloat (angleConv r.toInt) ∧ floatNumerator (angleConv r.toInt) * 32768 = r.toInt * 180 * 2 ^ 149 ∧
      plainFloat (accConv r.toInt) ∧ floatNumerator (accConv r.toInt) * 32768 = r.toInt * 16 * 2 ^ 149 ∧
      plainFloat (magConv r.toInt) ∧ floatNumerator (magConv r.toInt) = r.toInt * 2 ^ 149

/-- The ends of each register's range (R171's table), the temperature's under both evaluation orders. -/
def Obligations.ConvertedRangeEnds : Prop :=
  gyroConv (-32768) = 0xC4FA0000 ∧ gyroConv 32767 = 0x44F9FE0C ∧
    angleConv (-32768) = 0xC3340000 ∧ angleConv 32767 = 0x4333FE98 ∧
    accConv (-32768) = 0xC1800000 ∧ accConv 32767 = 0x417FFE00 ∧
    magConv (-32768) = 0xC7000000 ∧ magConv 32767 = 0x46FFFE00 ∧
    ∀ order, tempConv order (-32768) = 0xC2708182 ∧ tempConv order 32767 = 0x43049FA0

/-- The temperature conversion at every raw value. `F64_THEN_F32` is `r / 340 + 36.25 = (r + 12325) / 340` rounded once to
binary32. `F32_STEPWISE` is the binary32 quotient, plus 36.25, rounded again. The two are never more than 2^-16 degrees apart,
and neither gives a NaN, an infinity, a subnormal or -0.0 (R163, R172, R12). -/
def Obligations.TemperatureConversionRoundsAsItsOrderSays : Prop :=
  ∀ r : Half,
    tempConv .f64ThenF32 r.toInt = fl32 ⟨r.toInt + 12325, 340⟩ ∧
      RoundedWord (tempConv .f64ThenF32 r.toInt) (r.toInt + 12325) 340 ∧
      RoundedWord (fl32 ⟨r.toInt, 340⟩) r.toInt 340 ∧
      RoundedWord (tempConv .f32Stepwise r.toInt) (floatNumerator (fl32 ⟨r.toInt, 340⟩) + 145 * 2 ^ 147) (2 ^ 149) ∧
      (floatNumerator (tempConv .f32Stepwise r.toInt) - floatNumerator (tempConv .f64ThenF32 r.toInt)).natAbs ≤ 2 ^ 133

/-! ## The watchdog -/

/-- WDT_INIT (R230). -/
def Obligations.WdtInitFollowsItsRule : Prop :=
  ∀ (timeout : Word) (s : State),
    (s.created = false → exec (.wdtInit timeout) s = .next (s.answered 0xFFFFFFFE)) ∧
      (s.created = true → timeout.toNat < 500 ∨ 30000 < timeout.toNat →
        exec (.wdtInit timeout) s = .next (s.answered 0xFFFFFFFF)) ∧
      (s.created = true → 500 ≤ timeout.toNat → timeout.toNat ≤ 30000 →
        exec (.wdtInit timeout) s = .next ({ s with wdTimeout := timeout, wdLast := s.now }.answered 0))

/-- WDT_ENABLE (R231). -/
def Obligations.WdtEnableFollowsItsRule : Prop :=
  ∀ (flag : Byte) (s : State),
    (s.created = false → exec (.wdtEnable flag) s = .next (s.answered 0xFFFFFFFE)) ∧
      (s.created = true → flag ≠ 0 →
        exec (.wdtEnable flag) s = .next ({ s with wdEnabled := true, wdLast := s.now }.answered 0)) ∧
      (s.created = true → flag = 0 → exec (.wdtEnable flag) s = .next ({ s with wdEnabled := false }.answered 0))

/-- WDT_CHECK does nothing in a block that is not created, enabled and armed, or whose elapsed time modulo 2^32 does not exceed
the window (R232, R233). -/
def Obligations.WdtCheckWithinTheWindowDoesNothing : Prop :=
  ∀ s : State, s.created = false ∨ s.enabled = false ∨ s.wdEnabled = false ∨
      (s.now - s.wdLast).toNat ≤ s.wdTimeout.toNat →
    exec .wdtCheck s = .next s

/-- WDT_CHECK past the window recovers: the transport requests in order, the frame state, `VALID`, the saturating counter and
`WD_LAST`, and nothing else (R232, R234, R236, R308). That the bytes waiting in `rxIn` are among what stays is the model's choice
(log 17): the spec does not say what `TrAbort` and `TrReinit` do to them. -/
def Obligations.WdtCheckPastTheWindowRecovers : Prop :=
  ∀ s : State, s.created = true → s.enabled = true → s.wdEnabled = true →
    s.wdTimeout.toNat < (s.now - s.wdLast).toNat →
    exec .wdtCheck s = .next
      { s with
        fstate := .idle, cursor := 0, valid := false, wdLast := s.now
        wdCount := if s.wdCount = 0xFFFFFFFF then 0xFFFFFFFF else s.wdCount + 1
        reinitAnswers := s.reinitAnswers.tail, reinitCount := s.reinitCount + 1
        out := s.out ++ match s.nextReinitAnswer with
          | .ok => [.trAbort, .trReinit .ok, .trArm]
          | .fail => [.trAbort, .trReinit .fail, .recoveryFailed] }

/-- Once per window: after a recovery, checks recover no more until more than the window has passed, and then one does
(R237). -/
def Obligations.RecoveriesAreMoreThanAWindowApart : Prop :=
  ∀ (s t : State) (d : Nat), s.created = true → s.enabled = true → s.wdEnabled = true →
    s.wdTimeout.toNat < (s.now - s.wdLast).toNat → exec .wdtCheck s = .next t → d < 2 ^ 32 →
    (d ≤ s.wdTimeout.toNat → exec .wdtCheck { t with tAbs := t.tAbs + d } = .next { t with tAbs := t.tAbs + d }) ∧
      (s.wdTimeout.toNat < d → ∃ u, exec .wdtCheck { t with tAbs := t.tAbs + d } = .next u ∧
        u.wdLast = t.wdLast + BitVec.ofNat 32 d ∧ Output.trAbort ∈ u.out.drop t.out.length)

/-! ## Lifecycle and accessors -/

/-- CREATE (R260). -/
def Obligations.CreateFollowsItsRule : Prop :=
  ∀ (tp : Byte) (timeout : Word) (s : State),
    (s.created = true → exec (.create tp timeout) s = .next (s.answered 0xFFFFFFFE)) ∧
      (s.created = false → tp = 0 → exec (.create tp timeout) s = .next (s.answered 0xFFFFFFFF)) ∧
      (s.created = false → tp ≠ 0 → exec (.create tp timeout) s = .next
        { s with
          gyro := Axes.zero, angle := Axes.zero, acc := Axes.zero, mag := Axes.zero
          temp := 0, version := 0, ts := 0, valid := false
          fb := Vector.replicate 11 0, cursor := 0, fstate := .idle
          wdLast := 0, wdTimeout := 0, wdEnabled := false, wdCount := 0
          cePhase := .idle, ceFrame := ⟨0, 0, 0, 0, 0⟩, ceT0 := 0
          respTimeout := if timeout = 0 then s.params.defaultRespTimeout else timeout
          enabled := false, created := true
          out := s.out ++ [.result 0] })

/-- ENABLE (R261). -/
def Obligations.EnableFollowsItsRule : Prop :=
  ∀ (flag : Byte) (s : State),
    (s.created = false → exec (.enable flag) s = .next (s.answered 0xFFFFFFFE)) ∧
      (s.created = true → flag ≠ 0 → exec (.enable flag) s = .next ({ s with enabled := true }.answered 0)) ∧
      (s.created = true → flag = 0 → exec (.enable flag) s = .next
        { s with
          enabled := false
          gyro := Axes.zero, angle := Axes.zero, acc := Axes.zero, mag := Axes.zero
          temp := 0, version := 0, ts := 0, valid := false
          fstate := .idle, cursor := 0
          out := s.out ++ [.result 0] })

/-- GET returns the selected register through the gate, zero otherwise, and changes nothing (R262, R263, R265, R103). For a
reserved selector this is the block's stated answer, which the model gives by its own choice (log 6). -/
def Obligations.GetFollowsItsRule : Prop :=
  ∀ (sel : Byte) (s : State), ∃ word, exec (.get sel) s = .next { s with out := s.out ++ [.value word] } ∧
    (s.created = false ∨ s.enabled = false ∨ s.valid = false ∨ 0x10 ≤ sel.toNat → word = 0) ∧
    (s.created = true → s.enabled = true → s.valid = true → sel.toNat < 0x10 →
      [s.gyro.x, s.gyro.y, s.gyro.z, s.angle.x, s.angle.y, s.angle.z, s.acc.x, s.acc.y, s.acc.z,
        s.mag.x, s.mag.y, s.mag.z, s.temp, s.version.setWidth 32, s.ts, 1][sel.toNat]? = some word)

/-- STATUS returns the selected register without the gate, states as the values of R36 and R42, and changes nothing (R264, R104). For a reserved selector this is
the block's stated answer, which the model gives by its own choice (log 6). -/
def Obligations.StatusFollowsItsRule : Prop :=
  ∀ (sel : Byte) (s : State), ∃ word, exec (.status sel) s = .next { s with out := s.out ++ [.value word] } ∧
    (reservedStatusSelector sel → word = 0) ∧
    (sel.toNat ≤ 0x0A →
      [if s.created then 1 else 0, if s.enabled then 1 else 0,
        match s.fstate with | .idle => 0 | .receiving => 1 | .ready => 2 | .error => 3,
        s.cursor.setWidth 32, if s.wdEnabled then 1 else 0, s.wdTimeout, s.wdLast, s.wdCount, s.respTimeout,
        match s.cePhase with | .idle => 0 | .waitUnlock => 1 | .waitWrite => 2 | .waitSave => 3,
        if s.valid then 1 else 0][sel.toNat]? = some word) ∧
    (0x10 ≤ sel.toNat → sel.toNat ≤ 0x1A → word.toNat = (s.fb.getD (sel.toNat - 0x10) 0).toNat)

/-- `GET VALID` always shows what `STATUS VALID` shows (R264's corner case). -/
def Obligations.GetValidEqualsStatusValid : Prop :=
  ∀ s : State, s.Inv → exec (.get 0x0F) s = exec (.status 0x0A) s

/-! ## The command encoder -/

/-- The four setters: SET_BAUD 1 to 7, SET_RATE 1 to 13 but 10, SET_CONTENT 1 to 0xFF, SET_BANDWIDTH 0 to 6, each with its operand
as the data value (R194 to R197, R193). -/
def Obligations.SettersFollowTheirRules : Prop :=
  ∀ w : Word,
    ConfigurationOperation (.setBaud w) .setBaud Params.regBaud (BitVec.ofNat 8 w.toNat) 0
        (1 ≤ w.toNat ∧ w.toNat ≤ 7) ∧
      ConfigurationOperation (.setRate w) .setRate Params.regRate (BitVec.ofNat 8 w.toNat) 0
        (1 ≤ w.toNat ∧ w.toNat ≤ 13 ∧ w.toNat ≠ 10) ∧
      ConfigurationOperation (.setContent w) .setContent Params.regContent (BitVec.ofNat 8 w.toNat) 0
        (1 ≤ w.toNat ∧ w.toNat ≤ 0xFF) ∧
      ConfigurationOperation (.setBandwidth w) .setBandwidth Params.regBandwidth (BitVec.ofNat 8 w.toNat) 0
        (w.toNat ≤ 6)

/-- The calibration, manual-calibration and yaw-zero operations, with R107's data values (R198 to R204, R193). -/
def Obligations.CalibrationOperationsFollowTheirRules : Prop :=
  ConfigurationOperation .accCalStart .accCalStart Params.regCalsw 0x01 0x00 True ∧
    ConfigurationOperation .accCalStop .accCalStop Params.regCalsw 0x00 0x00 True ∧
    ConfigurationOperation .magCalStart .magCalStart Params.regCalsw 0x07 0x00 True ∧
    ConfigurationOperation .magCalStop .magCalStop Params.regCalsw 0x00 0x00 True ∧
    ConfigurationOperation .manualCalEnter .manualCalEnter Params.regManualcal 0x01 0x00 True ∧
    ConfigurationOperation .manualCalExit .manualCalExit Params.regManualcal 0x04 0x00 True ∧
    ConfigurationOperation .zeroYaw .zeroYaw Params.regYawzero 0x00 0x00 True

/-- READ_REG: one frame and its result, and no register written (R205, R193). -/
def Obligations.ReadRegFollowsItsRule : Prop :=
  ∀ (addr : Word) (s : State),
    (s.created = false ∨ s.enabled = false ∨ s.cePhase ≠ .idle →
        exec (.readReg addr) s = .next (s.answered 0xFFFFFFFE)) ∧
      (s.created = true → s.enabled = true → s.cePhase = .idle → 0xFF < addr.toNat →
        exec (.readReg addr) s = .next (s.answered 0xFFFFFFFF)) ∧
      (s.created = true → s.enabled = true → s.cePhase = .idle → addr.toNat ≤ 0xFF →
        exec (.readReg addr) s = .next
          (s.sent ⟨0xFF, 0xAA, 0x27, BitVec.ofNat 8 addr.toNat, 0x00⟩
            [.result (if s.nextTxAnswer = .ok then 0 else 0xFFFFFFFD)]))

/-- The CMD5 rows: each is one transmit request of its five bytes, and no register is written (R95 to R98, R191, R63). That a
row runs as its transmit request is the model's reading (log 8). -/
def Obligations.CommandRowsTransmitTheirBytes : Prop :=
  ∀ (s : State) (addr : Byte) (data : Half),
    exec .cmdUnlock s = .next (s.sent ⟨0xFF, 0xAA, 0x69, 0x88, 0xB5⟩ []) ∧
      exec .cmdSave s = .next (s.sent ⟨0xFF, 0xAA, 0x00, 0x00, 0x00⟩ []) ∧
      exec (.cmdReadReq addr) s = .next (s.sent ⟨0xFF, 0xAA, 0x27, addr, 0x00⟩ []) ∧
      ∃ dl dh : Byte, data.toNat = dh.toNat * 256 + dl.toNat ∧
        exec (.cmdWrite addr data) s = .next (s.sent ⟨0xFF, 0xAA, addr, dl, dh⟩ [])

/-- Sequencer step 1: once the unlock frame's wait has passed, `CE_FRAME` is transmitted; OK starts the next wait, FAIL ends
the operation with `E_TRANSPORT` (R190). -/
def Obligations.SequencerSendsTheWriteFrame : Prop :=
  ∀ s u : State, s.nextTurn.agent = .sequencer → s.beginTurn = u → u.cePhase = .waitUnlock →
    u.params.settleUnlock ≤ (u.now - u.ceT0).toNat →
    (u.nextTxAnswer = .ok →
        step s = .next { u.sent u.ceFrame [] with ceT0 := u.now, cePhase := .waitWrite }) ∧
      (∀ n, u.nextTxAnswer = .fail n →
        step s = .next { u.sent u.ceFrame [.done u.ceOp 0xFFFFFFFD] with cePhase := .idle })

/-- Sequencer step 2: once the write frame's wait has passed, the save frame is transmitted; OK starts the last wait, FAIL
ends the operation with `E_TRANSPORT` (R190). -/
def Obligations.SequencerSendsTheSaveFrame : Prop :=
  ∀ s u : State, s.nextTurn.agent = .sequencer → s.beginTurn = u → u.cePhase = .waitWrite →
    u.params.settleWrite ≤ (u.now - u.ceT0).toNat →
    (u.nextTxAnswer = .ok →
        step s = .next { u.sent saveBytes [] with ceT0 := u.now, cePhase := .waitSave }) ∧
      (∀ n, u.nextTxAnswer = .fail n →
        step s = .next { u.sent saveBytes [.done u.ceOp 0xFFFFFFFD] with cePhase := .idle })

/-- Sequencer step 3 completes the operation with `OK`; and before its wait has passed, and in `CE_IDLE`, the sequencer does
nothing (R190, R192). -/
def Obligations.SequencerCompletesAndNeverRunsEarly : Prop :=
  ∀ s u : State, s.nextTurn.agent = .sequencer → s.beginTurn = u →
    (u.cePhase = .waitSave → u.params.settleSave ≤ (u.now - u.ceT0).toNat →
        step s = .next { u with cePhase := .idle, out := u.out ++ [.done u.ceOp 0] }) ∧
      (u.cePhase = .idle ∨
          u.cePhase = .waitUnlock ∧ (u.now - u.ceT0).toNat < u.params.settleUnlock ∨
          u.cePhase = .waitWrite ∧ (u.now - u.ceT0).toNat < u.params.settleWrite ∨
          u.cePhase = .waitSave ∧ (u.now - u.ceT0).toNat < u.params.settleSave →
        step s = .next u)

/-- A pending sequence that ENV lets run, with every request answered OK, puts the write frame and the save frame on TX, in
that order, and completes with `OK` (R190, R207). -/
def Obligations.PendingSequenceCompletes : Prop :=
  ∀ (s : State) (a b c : Nat) (turns : List EnvTurn) (answers : List TxAnswer),
    s.cePhase = .waitUnlock → s.turns = ⟨a, .sequencer⟩ :: ⟨b, .sequencer⟩ :: ⟨c, .sequencer⟩ :: turns →
    s.txAnswers = .ok :: .ok :: answers →
    s.params.settleUnlock ≤ (s.now + BitVec.ofNat 32 a - s.ceT0).toNat →
    s.params.settleWrite ≤ b → b < 2 ^ 32 → s.params.settleSave ≤ c → c < 2 ^ 32 →
      ∃ t : State, Sys2Proof.core.run 3 s = .next t ∧ t.cePhase = .idle ∧ t.tAbs = s.tAbs + a + b + c ∧
        t.out = s.out ++ [.tx s.ceFrame s.respTimeout .ok, .tx saveBytes s.respTimeout .ok, .done s.ceOp 0]

/-- Weak fairness: where no schedule is given and as many turns have gone by without a step of the pending sequence as ENV's
patience, some free number, allows, the next turn is the sequencer's and its settle wait has passed; and every turn without a
step of the pending sequence is counted (R192). The form of fairness is the model's choice (log 4). -/
def Obligations.PatienceBoundsPassedOverSequencerSteps : Prop :=
  ∀ s : State, s.cePhase ≠ .idle →
    (s.turns = [] → Config.patience s.txCount ≤ s.skips → s.nextTurn.agent = .sequencer) ∧
      (s.turns = [] → Config.patience s.txCount ≤ s.skips → s.params.wf → s.beginTurn.sequencerEnabled = true) ∧
      (∀ t, s.nextTurn.agent ≠ .sequencer ∨ s.beginTurn.sequencerEnabled = false → step s = .next t →
        t.skips = s.skips + 1)

/-- Every issued sequence ends: from a state that meets the invariant and has a sequence pending, after some number of steps,
whatever ENV does in them, the sequencer is in `CE_IDLE` and `Done` has named the operation with `OK` or `E_TRANSPORT` (R192,
R206, R210). That time does not stand still for ever is part of the model's form of fairness (log 4). -/
def Obligations.EveryIssuedSequenceEnds : Prop :=
  ∀ s : State, s.Inv → s.cePhase ≠ .idle →
    ∃ (k : Nat) (t : State) (code : Word), Sys2Proof.core.run k s = .next t ∧ t.cePhase = .idle ∧
      (code = 0 ∨ code = 0xFFFFFFFD) ∧ .done s.ceOp code ∈ t.out.drop s.out.length
end

