-- ==== Sys2Proof/Laws/Encoding.lean ====
section
/-! SUPPORT. What the byte-order helpers give back (30_encoding.md R62, R63, R101). -/

namespace Sys2Proof

/-- A 16-bit value is assembled from its own low and high byte. -/
@[simp] theorem le16_lowByte_highByte (v : Half) : le16 (lowByte v) (highByte v) = v := by
  simp only [le16, lowByte, highByte]
  bv_omega

/-- The low byte of an assembled 16-bit value. -/
@[simp] theorem lowByte_le16 (lo hi : Byte) : lowByte (le16 lo hi) = lo := by
  simp only [le16, lowByte]
  bv_omega

/-- The high byte of an assembled 16-bit value. -/
@[simp] theorem highByte_le16 (lo hi : Byte) : highByte (le16 lo hi) = hi := by
  simp only [le16, highByte]
  bv_omega

/-- A u32 is assembled from its own four bytes. -/
@[simp] theorem le32_wordByte (w : Word) :
    le32 (wordByte w 0) (wordByte w 1) (wordByte w 2) (wordByte w 3) = w := by
  simp [le32, wordByte]
  bv_omega

/-- The low byte of a byte extended to 16 bits is the byte. -/
@[simp] theorem lowByte_setWidth (b : Byte) : lowByte (b.setWidth 16) = b := by
  simp [lowByte]
  bv_omega

/-- The high byte of a byte extended to 16 bits is zero. -/
@[simp] theorem highByte_setWidth (b : Byte) : highByte (b.setWidth 16) = 0 := by
  simp [highByte]
  bv_omega

/-- Reading `count` bytes of a number gives `count` bytes. -/
@[simp] theorem natBytes_length (count w : Nat) : (natBytes count w).length = count := by
  induction count generalizing w with
  | zero => rfl
  | succ count ih => simp [natBytes, ih]

end Sys2Proof
end

