-- ==== Sys2Proof/Laws/Float.lean ====
section
/-! SUPPORT. What rounding does: the scaled fraction, the nearest integer, and where the significand lies (00_scope.md R12). -/

namespace Sys2Proof.Machine

/-- A scaled fraction keeps its denominator positive. -/
theorem scaleBy_den_pos {n d : Nat} (e : Int) (hd : 0 < d) : 0 < (scaleBy n d e).2 :=
  Nat.mul_pos hd (Nat.two_pow_pos _)

/-- The value of a scaled fraction. -/
theorem scaleBy_value (n d : Nat) (e : Int) :
    ((scaleBy n d e).1 : ℚ) / (scaleBy n d e).2 = n / d * 2 ^ (-e) := by
  obtain ⟨k, rfl | rfl⟩ := e.eq_nat_or_neg
  · simp only [scaleBy, zpow_neg, div_eq_mul_inv]
    simp
    ring
  · simp [scaleBy, mul_div_right_comm]

/-- The nearest integer is at most half away, and even where it is exactly half away. -/
theorem nearestEven_spec (n : Nat) {d : Nat} (hd : 0 < d) :
    2 * ((nearestEven n d : Int) * d - n).natAbs ≤ d ∧
      (2 * ((nearestEven n d : Int) * d - n).natAbs = d → nearestEven n d % 2 = 0) := by
  have hq : d * (n / d) + n % d = n := Nat.div_add_mod n d
  have hr : n % d < d := Nat.mod_lt n hd
  have below : ((n / d : Nat) : Int) * d - n = -(n % d : Nat) := by
    have : (d : Int) * (n / d : Nat) + (n % d : Nat) = n := by exact_mod_cast hq
    linarith [mul_comm (d : Int) (n / d : Nat)]
  have above : ((n / d + 1 : Nat) : Int) * d - n = d - (n % d : Nat) := by
    push_cast at below ⊢
    linarith
  unfold nearestEven
  dsimp only
  split_ifs with h1 h2 h3
  · rw [below]; omega
  · rw [above]; omega
  · rw [below]; omega
  · rw [above]; omega

/-- A positive number lies between the powers of two its logarithm names. -/
theorem log2_bounds {n : Nat} (hn : 0 < n) : (2 : ℚ) ^ (n.log2 : Int) ≤ n ∧ (n : ℚ) < 2 ^ ((n.log2 : Int) + 1) := by
  constructor
  · rw [zpow_natCast]
    exact_mod_cast Nat.log2_self_le hn.ne'
  · rw [show ((n.log2 : Int) + 1) = ((n.log2 + 1 : Nat) : Int) by push_cast; rfl, zpow_natCast]
    exact_mod_cast Nat.lt_log2_self

/-- The exponent that a fraction's logarithms suggest puts it between the format's precision less one and plus one. -/
theorem low_bounds (p : Nat) {n d : Nat} (hn : 0 < n) (hd : 0 < d) :
    (2 : ℚ) ^ ((p : Int) - 1) < n / d * 2 ^ (-((n.log2 : Int) - d.log2 - p)) ∧
      (n : ℚ) / d * 2 ^ (-((n.log2 : Int) - d.log2 - p)) < 2 ^ ((p : Int) + 1) := by
  obtain ⟨n1, n2⟩ := log2_bounds hn
  obtain ⟨d1, d2⟩ := log2_bounds hd
  have two : (2 : ℚ) ≠ 0 := by norm_num
  have hd' : (0 : ℚ) < d := by exact_mod_cast hd
  have pos : ∀ k : Int, (0 : ℚ) < 2 ^ k := fun k => zpow_pos (by norm_num) k
  rw [div_mul_eq_mul_div, lt_div_iff₀ hd', div_lt_iff₀ hd']
  constructor
  · calc (2 : ℚ) ^ ((p : Int) - 1) * d < 2 ^ ((p : Int) - 1) * 2 ^ ((d.log2 : Int) + 1) :=
        mul_lt_mul_of_pos_left d2 (pos _)
      _ = 2 ^ (n.log2 : Int) * 2 ^ (-((n.log2 : Int) - d.log2 - p)) := by
        rw [← zpow_add₀ two, ← zpow_add₀ two]
        congr 1
        ring
      _ ≤ n * 2 ^ (-((n.log2 : Int) - d.log2 - p)) := mul_le_mul_of_nonneg_right n1 (pos _).le
  · calc (n : ℚ) * 2 ^ (-((n.log2 : Int) - d.log2 - p))
        < 2 ^ ((n.log2 : Int) + 1) * 2 ^ (-((n.log2 : Int) - d.log2 - p)) := mul_lt_mul_of_pos_right n2 (pos _)
      _ = 2 ^ ((p : Int) + 1) * 2 ^ (d.log2 : Int) := by
        rw [← zpow_add₀ two, ← zpow_add₀ two]
        congr 1
        ring
      _ ≤ 2 ^ ((p : Int) + 1) * d := mul_le_mul_of_nonneg_left d1 (pos _).le

/-- The significand of a positive fraction has at most the format's bits, and at least that many unless its exponent is the
format's least one. -/
theorem significandExponent_spec (f : FloatFormat) {n d : Nat} (hn : 0 < n) (hd : 0 < d) :
    (n : ℚ) / d * 2 ^ (-significandExponent f n d) < 2 ^ f.precision ∧
      (significandExponent f n d = f.minExp ∨
        (2 : ℚ) ^ ((f.precision : Int) - 1) ≤ n / d * 2 ^ (-significandExponent f n d)) := by
  obtain ⟨l1, l2⟩ := low_bounds f.precision hn hd
  have two : (2 : ℚ) ≠ 0 := by norm_num
  have hq : (0 : ℚ) ≤ n / d := by positivity
  have value := scaleBy_value n d ((n.log2 : Int) - d.log2 - f.precision)
  have den : (0 : ℚ) < (scaleBy n d ((n.log2 : Int) - d.log2 - f.precision)).2 := by
    exact_mod_cast scaleBy_den_pos _ hd
  unfold significandExponent
  dsimp only
  generalize hlow : (n.log2 : Int) - d.log2 - f.precision = low at *
  have half : (n : ℚ) / d * 2 ^ (-(low + 1)) * 2 = n / d * 2 ^ (-low) := by
    rw [mul_assoc, ← zpow_add_one₀ two]
    congr 2
    ring
  have chosen : ∀ e : Int, (n : ℚ) / d * 2 ^ (-e) < 2 ^ f.precision →
      (2 : ℚ) ^ ((f.precision : Int) - 1) ≤ n / d * 2 ^ (-e) →
      (n : ℚ) / d * 2 ^ (-max f.minExp e) < 2 ^ f.precision ∧
        (max f.minExp e = f.minExp ∨ (2 : ℚ) ^ ((f.precision : Int) - 1) ≤ n / d * 2 ^ (-max f.minExp e)) := by
    intro e upper lower
    refine ⟨lt_of_le_of_lt (mul_le_mul_of_nonneg_left ?_ hq) upper, ?_⟩
    · exact zpow_le_zpow_right₀ (by norm_num) (by simp)
    · rcases max_choice f.minExp e with h | h
      · exact Or.inl h
      · exact Or.inr (by rw [h]; exact lower)
  have power : (2 : ℚ) ^ ((f.precision : Int) + 1) = 2 ^ f.precision * 2 := by
    rw [zpow_add_one₀ two, zpow_natCast]
  have power' : (2 : ℚ) ^ ((f.precision : Int) - 1) * 2 = 2 ^ f.precision := by
    rw [← zpow_add_one₀ two, sub_add_cancel, zpow_natCast]
  split_ifs with h
  · have : (2 : ℚ) ^ f.precision ≤ n / d * 2 ^ (-low) := by
      rw [← value, le_div_iff₀ den]
      exact_mod_cast (Nat.le_div_iff_mul_le (scaleBy_den_pos low hd)).1 h
    exact chosen _ (by linarith) (by linarith)
  · have : (n : ℚ) / d * 2 ^ (-low) < 2 ^ f.precision := by
      rw [← value, div_lt_iff₀ den]
      exact_mod_cast (Nat.div_lt_iff_lt_mul (scaleBy_den_pos low hd)).1 (not_le.1 h)
    exact chosen _ this l1.le

end Sys2Proof.Machine
end

