-- ==== Sys2Proof/Laws/State.lean ====
section
/-! SUPPORT. What each named update of the state does to each field: one lemma per field, true by rfl. -/

namespace Sys2Proof.Machine

/-! ## `State.emit` -/

@[simp] theorem State.emit_created (s : State) (o : Output) : (s.emit o).created = s.created := rfl
@[simp] theorem State.emit_enabled (s : State) (o : Output) : (s.emit o).enabled = s.enabled := rfl
@[simp] theorem State.emit_respTimeout (s : State) (o : Output) : (s.emit o).respTimeout = s.respTimeout := rfl
@[simp] theorem State.emit_gyro (s : State) (o : Output) : (s.emit o).gyro = s.gyro := rfl
@[simp] theorem State.emit_angle (s : State) (o : Output) : (s.emit o).angle = s.angle := rfl
@[simp] theorem State.emit_acc (s : State) (o : Output) : (s.emit o).acc = s.acc := rfl
@[simp] theorem State.emit_mag (s : State) (o : Output) : (s.emit o).mag = s.mag := rfl
@[simp] theorem State.emit_temp (s : State) (o : Output) : (s.emit o).temp = s.temp := rfl
@[simp] theorem State.emit_version (s : State) (o : Output) : (s.emit o).version = s.version := rfl
@[simp] theorem State.emit_ts (s : State) (o : Output) : (s.emit o).ts = s.ts := rfl
@[simp] theorem State.emit_valid (s : State) (o : Output) : (s.emit o).valid = s.valid := rfl
@[simp] theorem State.emit_fb (s : State) (o : Output) : (s.emit o).fb = s.fb := rfl
@[simp] theorem State.emit_cursor (s : State) (o : Output) : (s.emit o).cursor = s.cursor := rfl
@[simp] theorem State.emit_fstate (s : State) (o : Output) : (s.emit o).fstate = s.fstate := rfl
@[simp] theorem State.emit_wdLast (s : State) (o : Output) : (s.emit o).wdLast = s.wdLast := rfl
@[simp] theorem State.emit_wdTimeout (s : State) (o : Output) : (s.emit o).wdTimeout = s.wdTimeout := rfl
@[simp] theorem State.emit_wdEnabled (s : State) (o : Output) : (s.emit o).wdEnabled = s.wdEnabled := rfl
@[simp] theorem State.emit_wdCount (s : State) (o : Output) : (s.emit o).wdCount = s.wdCount := rfl
@[simp] theorem State.emit_cePhase (s : State) (o : Output) : (s.emit o).cePhase = s.cePhase := rfl
@[simp] theorem State.emit_ceFrame (s : State) (o : Output) : (s.emit o).ceFrame = s.ceFrame := rfl
@[simp] theorem State.emit_ceT0 (s : State) (o : Output) : (s.emit o).ceT0 = s.ceT0 := rfl
@[simp] theorem State.emit_ceOp (s : State) (o : Output) : (s.emit o).ceOp = s.ceOp := rfl
@[simp] theorem State.emit_tAbs (s : State) (o : Output) : (s.emit o).tAbs = s.tAbs := rfl
@[simp] theorem State.emit_hostIn (s : State) (o : Output) : (s.emit o).hostIn = s.hostIn := rfl
@[simp] theorem State.emit_rxIn (s : State) (o : Output) : (s.emit o).rxIn = s.rxIn := rfl
@[simp] theorem State.emit_out (s : State) (o : Output) : (s.emit o).out = s.out ++ [o] := rfl
@[simp] theorem State.emit_params (s : State) (o : Output) : (s.emit o).params = s.params := rfl
@[simp] theorem State.emit_turns (s : State) (o : Output) : (s.emit o).turns = s.turns := rfl
@[simp] theorem State.emit_txAnswers (s : State) (o : Output) : (s.emit o).txAnswers = s.txAnswers := rfl
@[simp] theorem State.emit_reinitAnswers (s : State) (o : Output) : (s.emit o).reinitAnswers = s.reinitAnswers := rfl
@[simp] theorem State.emit_turnCount (s : State) (o : Output) : (s.emit o).turnCount = s.turnCount := rfl
@[simp] theorem State.emit_txCount (s : State) (o : Output) : (s.emit o).txCount = s.txCount := rfl
@[simp] theorem State.emit_reinitCount (s : State) (o : Output) : (s.emit o).reinitCount = s.reinitCount := rfl
@[simp] theorem State.emit_skips (s : State) (o : Output) : (s.emit o).skips = s.skips := rfl

/-! ## `State.answer` -/

@[simp] theorem State.answer_created (s : State) (c : Word) : (s.answer c).created = s.created := rfl
@[simp] theorem State.answer_enabled (s : State) (c : Word) : (s.answer c).enabled = s.enabled := rfl
@[simp] theorem State.answer_respTimeout (s : State) (c : Word) : (s.answer c).respTimeout = s.respTimeout := rfl
@[simp] theorem State.answer_gyro (s : State) (c : Word) : (s.answer c).gyro = s.gyro := rfl
@[simp] theorem State.answer_angle (s : State) (c : Word) : (s.answer c).angle = s.angle := rfl
@[simp] theorem State.answer_acc (s : State) (c : Word) : (s.answer c).acc = s.acc := rfl
@[simp] theorem State.answer_mag (s : State) (c : Word) : (s.answer c).mag = s.mag := rfl
@[simp] theorem State.answer_temp (s : State) (c : Word) : (s.answer c).temp = s.temp := rfl
@[simp] theorem State.answer_version (s : State) (c : Word) : (s.answer c).version = s.version := rfl
@[simp] theorem State.answer_ts (s : State) (c : Word) : (s.answer c).ts = s.ts := rfl
@[simp] theorem State.answer_valid (s : State) (c : Word) : (s.answer c).valid = s.valid := rfl
@[simp] theorem State.answer_fb (s : State) (c : Word) : (s.answer c).fb = s.fb := rfl
@[simp] theorem State.answer_cursor (s : State) (c : Word) : (s.answer c).cursor = s.cursor := rfl
@[simp] theorem State.answer_fstate (s : State) (c : Word) : (s.answer c).fstate = s.fstate := rfl
@[simp] theorem State.answer_wdLast (s : State) (c : Word) : (s.answer c).wdLast = s.wdLast := rfl
@[simp] theorem State.answer_wdTimeout (s : State) (c : Word) : (s.answer c).wdTimeout = s.wdTimeout := rfl
@[simp] theorem State.answer_wdEnabled (s : State) (c : Word) : (s.answer c).wdEnabled = s.wdEnabled := rfl
@[simp] theorem State.answer_wdCount (s : State) (c : Word) : (s.answer c).wdCount = s.wdCount := rfl
@[simp] theorem State.answer_cePhase (s : State) (c : Word) : (s.answer c).cePhase = s.cePhase := rfl
@[simp] theorem State.answer_ceFrame (s : State) (c : Word) : (s.answer c).ceFrame = s.ceFrame := rfl
@[simp] theorem State.answer_ceT0 (s : State) (c : Word) : (s.answer c).ceT0 = s.ceT0 := rfl
@[simp] theorem State.answer_ceOp (s : State) (c : Word) : (s.answer c).ceOp = s.ceOp := rfl
@[simp] theorem State.answer_tAbs (s : State) (c : Word) : (s.answer c).tAbs = s.tAbs := rfl
@[simp] theorem State.answer_hostIn (s : State) (c : Word) : (s.answer c).hostIn = s.hostIn := rfl
@[simp] theorem State.answer_rxIn (s : State) (c : Word) : (s.answer c).rxIn = s.rxIn := rfl
@[simp] theorem State.answer_out (s : State) (c : Word) : (s.answer c).out = s.out ++ [.result c] := rfl
@[simp] theorem State.answer_params (s : State) (c : Word) : (s.answer c).params = s.params := rfl
@[simp] theorem State.answer_turns (s : State) (c : Word) : (s.answer c).turns = s.turns := rfl
@[simp] theorem State.answer_txAnswers (s : State) (c : Word) : (s.answer c).txAnswers = s.txAnswers := rfl
@[simp] theorem State.answer_reinitAnswers (s : State) (c : Word) : (s.answer c).reinitAnswers = s.reinitAnswers := rfl
@[simp] theorem State.answer_turnCount (s : State) (c : Word) : (s.answer c).turnCount = s.turnCount := rfl
@[simp] theorem State.answer_txCount (s : State) (c : Word) : (s.answer c).txCount = s.txCount := rfl
@[simp] theorem State.answer_reinitCount (s : State) (c : Word) : (s.answer c).reinitCount = s.reinitCount := rfl
@[simp] theorem State.answer_skips (s : State) (c : Word) : (s.answer c).skips = s.skips := rfl

/-! ## `State.transmit` -/

@[simp] theorem State.transmit_created (s : State) (c : CmdFrame) : (s.transmit c).created = s.created := rfl
@[simp] theorem State.transmit_enabled (s : State) (c : CmdFrame) : (s.transmit c).enabled = s.enabled := rfl
@[simp] theorem State.transmit_respTimeout (s : State) (c : CmdFrame) : (s.transmit c).respTimeout = s.respTimeout := rfl
@[simp] theorem State.transmit_gyro (s : State) (c : CmdFrame) : (s.transmit c).gyro = s.gyro := rfl
@[simp] theorem State.transmit_angle (s : State) (c : CmdFrame) : (s.transmit c).angle = s.angle := rfl
@[simp] theorem State.transmit_acc (s : State) (c : CmdFrame) : (s.transmit c).acc = s.acc := rfl
@[simp] theorem State.transmit_mag (s : State) (c : CmdFrame) : (s.transmit c).mag = s.mag := rfl
@[simp] theorem State.transmit_temp (s : State) (c : CmdFrame) : (s.transmit c).temp = s.temp := rfl
@[simp] theorem State.transmit_version (s : State) (c : CmdFrame) : (s.transmit c).version = s.version := rfl
@[simp] theorem State.transmit_ts (s : State) (c : CmdFrame) : (s.transmit c).ts = s.ts := rfl
@[simp] theorem State.transmit_valid (s : State) (c : CmdFrame) : (s.transmit c).valid = s.valid := rfl
@[simp] theorem State.transmit_fb (s : State) (c : CmdFrame) : (s.transmit c).fb = s.fb := rfl
@[simp] theorem State.transmit_cursor (s : State) (c : CmdFrame) : (s.transmit c).cursor = s.cursor := rfl
@[simp] theorem State.transmit_fstate (s : State) (c : CmdFrame) : (s.transmit c).fstate = s.fstate := rfl
@[simp] theorem State.transmit_wdLast (s : State) (c : CmdFrame) : (s.transmit c).wdLast = s.wdLast := rfl
@[simp] theorem State.transmit_wdTimeout (s : State) (c : CmdFrame) : (s.transmit c).wdTimeout = s.wdTimeout := rfl
@[simp] theorem State.transmit_wdEnabled (s : State) (c : CmdFrame) : (s.transmit c).wdEnabled = s.wdEnabled := rfl
@[simp] theorem State.transmit_wdCount (s : State) (c : CmdFrame) : (s.transmit c).wdCount = s.wdCount := rfl
@[simp] theorem State.transmit_cePhase (s : State) (c : CmdFrame) : (s.transmit c).cePhase = s.cePhase := rfl
@[simp] theorem State.transmit_ceFrame (s : State) (c : CmdFrame) : (s.transmit c).ceFrame = s.ceFrame := rfl
@[simp] theorem State.transmit_ceT0 (s : State) (c : CmdFrame) : (s.transmit c).ceT0 = s.ceT0 := rfl
@[simp] theorem State.transmit_ceOp (s : State) (c : CmdFrame) : (s.transmit c).ceOp = s.ceOp := rfl
@[simp] theorem State.transmit_tAbs (s : State) (c : CmdFrame) : (s.transmit c).tAbs = s.tAbs := rfl
@[simp] theorem State.transmit_hostIn (s : State) (c : CmdFrame) : (s.transmit c).hostIn = s.hostIn := rfl
@[simp] theorem State.transmit_rxIn (s : State) (c : CmdFrame) : (s.transmit c).rxIn = s.rxIn := rfl
@[simp] theorem State.transmit_out (s : State) (c : CmdFrame) : (s.transmit c).out = s.out ++ [.tx c s.respTimeout s.nextTxAnswer] := rfl
@[simp] theorem State.transmit_params (s : State) (c : CmdFrame) : (s.transmit c).params = s.params := rfl
@[simp] theorem State.transmit_turns (s : State) (c : CmdFrame) : (s.transmit c).turns = s.turns := rfl
@[simp] theorem State.transmit_txAnswers (s : State) (c : CmdFrame) : (s.transmit c).txAnswers = s.txAnswers.tail := rfl
@[simp] theorem State.transmit_reinitAnswers (s : State) (c : CmdFrame) : (s.transmit c).reinitAnswers = s.reinitAnswers := rfl
@[simp] theorem State.transmit_turnCount (s : State) (c : CmdFrame) : (s.transmit c).turnCount = s.turnCount := rfl
@[simp] theorem State.transmit_txCount (s : State) (c : CmdFrame) : (s.transmit c).txCount = s.txCount + 1 := rfl
@[simp] theorem State.transmit_reinitCount (s : State) (c : CmdFrame) : (s.transmit c).reinitCount = s.reinitCount := rfl
@[simp] theorem State.transmit_skips (s : State) (c : CmdFrame) : (s.transmit c).skips = s.skips := rfl

/-! ## `State.reinit` -/

@[simp] theorem State.reinit_created (s : State) : s.reinit.created = s.created := rfl
@[simp] theorem State.reinit_enabled (s : State) : s.reinit.enabled = s.enabled := rfl
@[simp] theorem State.reinit_respTimeout (s : State) : s.reinit.respTimeout = s.respTimeout := rfl
@[simp] theorem State.reinit_gyro (s : State) : s.reinit.gyro = s.gyro := rfl
@[simp] theorem State.reinit_angle (s : State) : s.reinit.angle = s.angle := rfl
@[simp] theorem State.reinit_acc (s : State) : s.reinit.acc = s.acc := rfl
@[simp] theorem State.reinit_mag (s : State) : s.reinit.mag = s.mag := rfl
@[simp] theorem State.reinit_temp (s : State) : s.reinit.temp = s.temp := rfl
@[simp] theorem State.reinit_version (s : State) : s.reinit.version = s.version := rfl
@[simp] theorem State.reinit_ts (s : State) : s.reinit.ts = s.ts := rfl
@[simp] theorem State.reinit_valid (s : State) : s.reinit.valid = s.valid := rfl
@[simp] theorem State.reinit_fb (s : State) : s.reinit.fb = s.fb := rfl
@[simp] theorem State.reinit_cursor (s : State) : s.reinit.cursor = s.cursor := rfl
@[simp] theorem State.reinit_fstate (s : State) : s.reinit.fstate = s.fstate := rfl
@[simp] theorem State.reinit_wdLast (s : State) : s.reinit.wdLast = s.wdLast := rfl
@[simp] theorem State.reinit_wdTimeout (s : State) : s.reinit.wdTimeout = s.wdTimeout := rfl
@[simp] theorem State.reinit_wdEnabled (s : State) : s.reinit.wdEnabled = s.wdEnabled := rfl
@[simp] theorem State.reinit_wdCount (s : State) : s.reinit.wdCount = s.wdCount := rfl
@[simp] theorem State.reinit_cePhase (s : State) : s.reinit.cePhase = s.cePhase := rfl
@[simp] theorem State.reinit_ceFrame (s : State) : s.reinit.ceFrame = s.ceFrame := rfl
@[simp] theorem State.reinit_ceT0 (s : State) : s.reinit.ceT0 = s.ceT0 := rfl
@[simp] theorem State.reinit_ceOp (s : State) : s.reinit.ceOp = s.ceOp := rfl
@[simp] theorem State.reinit_tAbs (s : State) : s.reinit.tAbs = s.tAbs := rfl
@[simp] theorem State.reinit_hostIn (s : State) : s.reinit.hostIn = s.hostIn := rfl
@[simp] theorem State.reinit_rxIn (s : State) : s.reinit.rxIn = s.rxIn := rfl
@[simp] theorem State.reinit_out (s : State) : s.reinit.out = s.out ++ [.trReinit s.nextReinitAnswer] := rfl
@[simp] theorem State.reinit_params (s : State) : s.reinit.params = s.params := rfl
@[simp] theorem State.reinit_turns (s : State) : s.reinit.turns = s.turns := rfl
@[simp] theorem State.reinit_txAnswers (s : State) : s.reinit.txAnswers = s.txAnswers := rfl
@[simp] theorem State.reinit_reinitAnswers (s : State) : s.reinit.reinitAnswers = s.reinitAnswers.tail := rfl
@[simp] theorem State.reinit_turnCount (s : State) : s.reinit.turnCount = s.turnCount := rfl
@[simp] theorem State.reinit_txCount (s : State) : s.reinit.txCount = s.txCount := rfl
@[simp] theorem State.reinit_reinitCount (s : State) : s.reinit.reinitCount = s.reinitCount + 1 := rfl
@[simp] theorem State.reinit_skips (s : State) : s.reinit.skips = s.skips := rfl

/-! ## `State.complete` -/

@[simp] theorem State.complete_created (s : State) (c : Word) : (s.complete c).created = s.created := rfl
@[simp] theorem State.complete_enabled (s : State) (c : Word) : (s.complete c).enabled = s.enabled := rfl
@[simp] theorem State.complete_respTimeout (s : State) (c : Word) : (s.complete c).respTimeout = s.respTimeout := rfl
@[simp] theorem State.complete_gyro (s : State) (c : Word) : (s.complete c).gyro = s.gyro := rfl
@[simp] theorem State.complete_angle (s : State) (c : Word) : (s.complete c).angle = s.angle := rfl
@[simp] theorem State.complete_acc (s : State) (c : Word) : (s.complete c).acc = s.acc := rfl
@[simp] theorem State.complete_mag (s : State) (c : Word) : (s.complete c).mag = s.mag := rfl
@[simp] theorem State.complete_temp (s : State) (c : Word) : (s.complete c).temp = s.temp := rfl
@[simp] theorem State.complete_version (s : State) (c : Word) : (s.complete c).version = s.version := rfl
@[simp] theorem State.complete_ts (s : State) (c : Word) : (s.complete c).ts = s.ts := rfl
@[simp] theorem State.complete_valid (s : State) (c : Word) : (s.complete c).valid = s.valid := rfl
@[simp] theorem State.complete_fb (s : State) (c : Word) : (s.complete c).fb = s.fb := rfl
@[simp] theorem State.complete_cursor (s : State) (c : Word) : (s.complete c).cursor = s.cursor := rfl
@[simp] theorem State.complete_fstate (s : State) (c : Word) : (s.complete c).fstate = s.fstate := rfl
@[simp] theorem State.complete_wdLast (s : State) (c : Word) : (s.complete c).wdLast = s.wdLast := rfl
@[simp] theorem State.complete_wdTimeout (s : State) (c : Word) : (s.complete c).wdTimeout = s.wdTimeout := rfl
@[simp] theorem State.complete_wdEnabled (s : State) (c : Word) : (s.complete c).wdEnabled = s.wdEnabled := rfl
@[simp] theorem State.complete_wdCount (s : State) (c : Word) : (s.complete c).wdCount = s.wdCount := rfl
@[simp] theorem State.complete_cePhase (s : State) (c : Word) : (s.complete c).cePhase = .idle := rfl
@[simp] theorem State.complete_ceFrame (s : State) (c : Word) : (s.complete c).ceFrame = s.ceFrame := rfl
@[simp] theorem State.complete_ceT0 (s : State) (c : Word) : (s.complete c).ceT0 = s.ceT0 := rfl
@[simp] theorem State.complete_ceOp (s : State) (c : Word) : (s.complete c).ceOp = s.ceOp := rfl
@[simp] theorem State.complete_tAbs (s : State) (c : Word) : (s.complete c).tAbs = s.tAbs := rfl
@[simp] theorem State.complete_hostIn (s : State) (c : Word) : (s.complete c).hostIn = s.hostIn := rfl
@[simp] theorem State.complete_rxIn (s : State) (c : Word) : (s.complete c).rxIn = s.rxIn := rfl
@[simp] theorem State.complete_out (s : State) (c : Word) : (s.complete c).out = s.out ++ [.done s.ceOp c] := rfl
@[simp] theorem State.complete_params (s : State) (c : Word) : (s.complete c).params = s.params := rfl
@[simp] theorem State.complete_turns (s : State) (c : Word) : (s.complete c).turns = s.turns := rfl
@[simp] theorem State.complete_txAnswers (s : State) (c : Word) : (s.complete c).txAnswers = s.txAnswers := rfl
@[simp] theorem State.complete_reinitAnswers (s : State) (c : Word) : (s.complete c).reinitAnswers = s.reinitAnswers := rfl
@[simp] theorem State.complete_turnCount (s : State) (c : Word) : (s.complete c).turnCount = s.turnCount := rfl
@[simp] theorem State.complete_txCount (s : State) (c : Word) : (s.complete c).txCount = s.txCount := rfl
@[simp] theorem State.complete_reinitCount (s : State) (c : Word) : (s.complete c).reinitCount = s.reinitCount := rfl
@[simp] theorem State.complete_skips (s : State) (c : Word) : (s.complete c).skips = s.skips := rfl

/-! ## `State.resetFrame` -/

@[simp] theorem State.resetFrame_created (s : State) : s.resetFrame.created = s.created := rfl
@[simp] theorem State.resetFrame_enabled (s : State) : s.resetFrame.enabled = s.enabled := rfl
@[simp] theorem State.resetFrame_respTimeout (s : State) : s.resetFrame.respTimeout = s.respTimeout := rfl
@[simp] theorem State.resetFrame_gyro (s : State) : s.resetFrame.gyro = s.gyro := rfl
@[simp] theorem State.resetFrame_angle (s : State) : s.resetFrame.angle = s.angle := rfl
@[simp] theorem State.resetFrame_acc (s : State) : s.resetFrame.acc = s.acc := rfl
@[simp] theorem State.resetFrame_mag (s : State) : s.resetFrame.mag = s.mag := rfl
@[simp] theorem State.resetFrame_temp (s : State) : s.resetFrame.temp = s.temp := rfl
@[simp] theorem State.resetFrame_version (s : State) : s.resetFrame.version = s.version := rfl
@[simp] theorem State.resetFrame_ts (s : State) : s.resetFrame.ts = s.ts := rfl
@[simp] theorem State.resetFrame_valid (s : State) : s.resetFrame.valid = s.valid := rfl
@[simp] theorem State.resetFrame_fb (s : State) : s.resetFrame.fb = s.fb := rfl
@[simp] theorem State.resetFrame_cursor (s : State) : s.resetFrame.cursor = 0 := rfl
@[simp] theorem State.resetFrame_fstate (s : State) : s.resetFrame.fstate = .idle := rfl
@[simp] theorem State.resetFrame_wdLast (s : State) : s.resetFrame.wdLast = s.wdLast := rfl
@[simp] theorem State.resetFrame_wdTimeout (s : State) : s.resetFrame.wdTimeout = s.wdTimeout := rfl
@[simp] theorem State.resetFrame_wdEnabled (s : State) : s.resetFrame.wdEnabled = s.wdEnabled := rfl
@[simp] theorem State.resetFrame_wdCount (s : State) : s.resetFrame.wdCount = s.wdCount := rfl
@[simp] theorem State.resetFrame_cePhase (s : State) : s.resetFrame.cePhase = s.cePhase := rfl
@[simp] theorem State.resetFrame_ceFrame (s : State) : s.resetFrame.ceFrame = s.ceFrame := rfl
@[simp] theorem State.resetFrame_ceT0 (s : State) : s.resetFrame.ceT0 = s.ceT0 := rfl
@[simp] theorem State.resetFrame_ceOp (s : State) : s.resetFrame.ceOp = s.ceOp := rfl
@[simp] theorem State.resetFrame_tAbs (s : State) : s.resetFrame.tAbs = s.tAbs := rfl
@[simp] theorem State.resetFrame_hostIn (s : State) : s.resetFrame.hostIn = s.hostIn := rfl
@[simp] theorem State.resetFrame_rxIn (s : State) : s.resetFrame.rxIn = s.rxIn := rfl
@[simp] theorem State.resetFrame_out (s : State) : s.resetFrame.out = s.out := rfl
@[simp] theorem State.resetFrame_params (s : State) : s.resetFrame.params = s.params := rfl
@[simp] theorem State.resetFrame_turns (s : State) : s.resetFrame.turns = s.turns := rfl
@[simp] theorem State.resetFrame_txAnswers (s : State) : s.resetFrame.txAnswers = s.txAnswers := rfl
@[simp] theorem State.resetFrame_reinitAnswers (s : State) : s.resetFrame.reinitAnswers = s.reinitAnswers := rfl
@[simp] theorem State.resetFrame_turnCount (s : State) : s.resetFrame.turnCount = s.turnCount := rfl
@[simp] theorem State.resetFrame_txCount (s : State) : s.resetFrame.txCount = s.txCount := rfl
@[simp] theorem State.resetFrame_reinitCount (s : State) : s.resetFrame.reinitCount = s.reinitCount := rfl
@[simp] theorem State.resetFrame_skips (s : State) : s.resetFrame.skips = s.skips := rfl

/-! ## `State.clearSnapshot` -/

@[simp] theorem State.clearSnapshot_created (s : State) : s.clearSnapshot.created = s.created := rfl
@[simp] theorem State.clearSnapshot_enabled (s : State) : s.clearSnapshot.enabled = s.enabled := rfl
@[simp] theorem State.clearSnapshot_respTimeout (s : State) : s.clearSnapshot.respTimeout = s.respTimeout := rfl
@[simp] theorem State.clearSnapshot_gyro (s : State) : s.clearSnapshot.gyro = Axes.zero := rfl
@[simp] theorem State.clearSnapshot_angle (s : State) : s.clearSnapshot.angle = Axes.zero := rfl
@[simp] theorem State.clearSnapshot_acc (s : State) : s.clearSnapshot.acc = Axes.zero := rfl
@[simp] theorem State.clearSnapshot_mag (s : State) : s.clearSnapshot.mag = Axes.zero := rfl
@[simp] theorem State.clearSnapshot_temp (s : State) : s.clearSnapshot.temp = 0 := rfl
@[simp] theorem State.clearSnapshot_version (s : State) : s.clearSnapshot.version = 0 := rfl
@[simp] theorem State.clearSnapshot_ts (s : State) : s.clearSnapshot.ts = 0 := rfl
@[simp] theorem State.clearSnapshot_valid (s : State) : s.clearSnapshot.valid = false := rfl
@[simp] theorem State.clearSnapshot_fb (s : State) : s.clearSnapshot.fb = s.fb := rfl
@[simp] theorem State.clearSnapshot_cursor (s : State) : s.clearSnapshot.cursor = s.cursor := rfl
@[simp] theorem State.clearSnapshot_fstate (s : State) : s.clearSnapshot.fstate = s.fstate := rfl
@[simp] theorem State.clearSnapshot_wdLast (s : State) : s.clearSnapshot.wdLast = s.wdLast := rfl
@[simp] theorem State.clearSnapshot_wdTimeout (s : State) : s.clearSnapshot.wdTimeout = s.wdTimeout := rfl
@[simp] theorem State.clearSnapshot_wdEnabled (s : State) : s.clearSnapshot.wdEnabled = s.wdEnabled := rfl
@[simp] theorem State.clearSnapshot_wdCount (s : State) : s.clearSnapshot.wdCount = s.wdCount := rfl
@[simp] theorem State.clearSnapshot_cePhase (s : State) : s.clearSnapshot.cePhase = s.cePhase := rfl
@[simp] theorem State.clearSnapshot_ceFrame (s : State) : s.clearSnapshot.ceFrame = s.ceFrame := rfl
@[simp] theorem State.clearSnapshot_ceT0 (s : State) : s.clearSnapshot.ceT0 = s.ceT0 := rfl
@[simp] theorem State.clearSnapshot_ceOp (s : State) : s.clearSnapshot.ceOp = s.ceOp := rfl
@[simp] theorem State.clearSnapshot_tAbs (s : State) : s.clearSnapshot.tAbs = s.tAbs := rfl
@[simp] theorem State.clearSnapshot_hostIn (s : State) : s.clearSnapshot.hostIn = s.hostIn := rfl
@[simp] theorem State.clearSnapshot_rxIn (s : State) : s.clearSnapshot.rxIn = s.rxIn := rfl
@[simp] theorem State.clearSnapshot_out (s : State) : s.clearSnapshot.out = s.out := rfl
@[simp] theorem State.clearSnapshot_params (s : State) : s.clearSnapshot.params = s.params := rfl
@[simp] theorem State.clearSnapshot_turns (s : State) : s.clearSnapshot.turns = s.turns := rfl
@[simp] theorem State.clearSnapshot_txAnswers (s : State) : s.clearSnapshot.txAnswers = s.txAnswers := rfl
@[simp] theorem State.clearSnapshot_reinitAnswers (s : State) : s.clearSnapshot.reinitAnswers = s.reinitAnswers := rfl
@[simp] theorem State.clearSnapshot_turnCount (s : State) : s.clearSnapshot.turnCount = s.turnCount := rfl
@[simp] theorem State.clearSnapshot_txCount (s : State) : s.clearSnapshot.txCount = s.txCount := rfl
@[simp] theorem State.clearSnapshot_reinitCount (s : State) : s.clearSnapshot.reinitCount = s.reinitCount := rfl
@[simp] theorem State.clearSnapshot_skips (s : State) : s.clearSnapshot.skips = s.skips := rfl

/-! ## `State.wdFeed` -/

@[simp] theorem State.wdFeed_created (s : State) : s.wdFeed.created = s.created := rfl
@[simp] theorem State.wdFeed_enabled (s : State) : s.wdFeed.enabled = s.enabled := rfl
@[simp] theorem State.wdFeed_respTimeout (s : State) : s.wdFeed.respTimeout = s.respTimeout := rfl
@[simp] theorem State.wdFeed_gyro (s : State) : s.wdFeed.gyro = s.gyro := rfl
@[simp] theorem State.wdFeed_angle (s : State) : s.wdFeed.angle = s.angle := rfl
@[simp] theorem State.wdFeed_acc (s : State) : s.wdFeed.acc = s.acc := rfl
@[simp] theorem State.wdFeed_mag (s : State) : s.wdFeed.mag = s.mag := rfl
@[simp] theorem State.wdFeed_temp (s : State) : s.wdFeed.temp = s.temp := rfl
@[simp] theorem State.wdFeed_version (s : State) : s.wdFeed.version = s.version := rfl
@[simp] theorem State.wdFeed_ts (s : State) : s.wdFeed.ts = s.ts := rfl
@[simp] theorem State.wdFeed_valid (s : State) : s.wdFeed.valid = s.valid := rfl
@[simp] theorem State.wdFeed_fb (s : State) : s.wdFeed.fb = s.fb := rfl
@[simp] theorem State.wdFeed_cursor (s : State) : s.wdFeed.cursor = s.cursor := rfl
@[simp] theorem State.wdFeed_fstate (s : State) : s.wdFeed.fstate = s.fstate := rfl
@[simp] theorem State.wdFeed_wdLast (s : State) : s.wdFeed.wdLast = s.now := rfl
@[simp] theorem State.wdFeed_wdTimeout (s : State) : s.wdFeed.wdTimeout = s.wdTimeout := rfl
@[simp] theorem State.wdFeed_wdEnabled (s : State) : s.wdFeed.wdEnabled = s.wdEnabled := rfl
@[simp] theorem State.wdFeed_wdCount (s : State) : s.wdFeed.wdCount = s.wdCount := rfl
@[simp] theorem State.wdFeed_cePhase (s : State) : s.wdFeed.cePhase = s.cePhase := rfl
@[simp] theorem State.wdFeed_ceFrame (s : State) : s.wdFeed.ceFrame = s.ceFrame := rfl
@[simp] theorem State.wdFeed_ceT0 (s : State) : s.wdFeed.ceT0 = s.ceT0 := rfl
@[simp] theorem State.wdFeed_ceOp (s : State) : s.wdFeed.ceOp = s.ceOp := rfl
@[simp] theorem State.wdFeed_tAbs (s : State) : s.wdFeed.tAbs = s.tAbs := rfl
@[simp] theorem State.wdFeed_hostIn (s : State) : s.wdFeed.hostIn = s.hostIn := rfl
@[simp] theorem State.wdFeed_rxIn (s : State) : s.wdFeed.rxIn = s.rxIn := rfl
@[simp] theorem State.wdFeed_out (s : State) : s.wdFeed.out = s.out := rfl
@[simp] theorem State.wdFeed_params (s : State) : s.wdFeed.params = s.params := rfl
@[simp] theorem State.wdFeed_turns (s : State) : s.wdFeed.turns = s.turns := rfl
@[simp] theorem State.wdFeed_txAnswers (s : State) : s.wdFeed.txAnswers = s.txAnswers := rfl
@[simp] theorem State.wdFeed_reinitAnswers (s : State) : s.wdFeed.reinitAnswers = s.reinitAnswers := rfl
@[simp] theorem State.wdFeed_turnCount (s : State) : s.wdFeed.turnCount = s.turnCount := rfl
@[simp] theorem State.wdFeed_txCount (s : State) : s.wdFeed.txCount = s.txCount := rfl
@[simp] theorem State.wdFeed_reinitCount (s : State) : s.wdFeed.reinitCount = s.reinitCount := rfl
@[simp] theorem State.wdFeed_skips (s : State) : s.wdFeed.skips = s.skips := rfl

/-! ## `State.stamp` -/

@[simp] theorem State.stamp_created (s : State) : s.stamp.created = s.created := rfl
@[simp] theorem State.stamp_enabled (s : State) : s.stamp.enabled = s.enabled := rfl
@[simp] theorem State.stamp_respTimeout (s : State) : s.stamp.respTimeout = s.respTimeout := rfl
@[simp] theorem State.stamp_gyro (s : State) : s.stamp.gyro = s.gyro := rfl
@[simp] theorem State.stamp_angle (s : State) : s.stamp.angle = s.angle := rfl
@[simp] theorem State.stamp_acc (s : State) : s.stamp.acc = s.acc := rfl
@[simp] theorem State.stamp_mag (s : State) : s.stamp.mag = s.mag := rfl
@[simp] theorem State.stamp_temp (s : State) : s.stamp.temp = s.temp := rfl
@[simp] theorem State.stamp_version (s : State) : s.stamp.version = s.version := rfl
@[simp] theorem State.stamp_ts (s : State) : s.stamp.ts = s.now := rfl
@[simp] theorem State.stamp_valid (s : State) : s.stamp.valid = true := rfl
@[simp] theorem State.stamp_fb (s : State) : s.stamp.fb = s.fb := rfl
@[simp] theorem State.stamp_cursor (s : State) : s.stamp.cursor = s.cursor := rfl
@[simp] theorem State.stamp_fstate (s : State) : s.stamp.fstate = s.fstate := rfl
@[simp] theorem State.stamp_wdLast (s : State) : s.stamp.wdLast = s.wdLast := rfl
@[simp] theorem State.stamp_wdTimeout (s : State) : s.stamp.wdTimeout = s.wdTimeout := rfl
@[simp] theorem State.stamp_wdEnabled (s : State) : s.stamp.wdEnabled = s.wdEnabled := rfl
@[simp] theorem State.stamp_wdCount (s : State) : s.stamp.wdCount = s.wdCount := rfl
@[simp] theorem State.stamp_cePhase (s : State) : s.stamp.cePhase = s.cePhase := rfl
@[simp] theorem State.stamp_ceFrame (s : State) : s.stamp.ceFrame = s.ceFrame := rfl
@[simp] theorem State.stamp_ceT0 (s : State) : s.stamp.ceT0 = s.ceT0 := rfl
@[simp] theorem State.stamp_ceOp (s : State) : s.stamp.ceOp = s.ceOp := rfl
@[simp] theorem State.stamp_tAbs (s : State) : s.stamp.tAbs = s.tAbs := rfl
@[simp] theorem State.stamp_hostIn (s : State) : s.stamp.hostIn = s.hostIn := rfl
@[simp] theorem State.stamp_rxIn (s : State) : s.stamp.rxIn = s.rxIn := rfl
@[simp] theorem State.stamp_out (s : State) : s.stamp.out = s.out := rfl
@[simp] theorem State.stamp_params (s : State) : s.stamp.params = s.params := rfl
@[simp] theorem State.stamp_turns (s : State) : s.stamp.turns = s.turns := rfl
@[simp] theorem State.stamp_txAnswers (s : State) : s.stamp.txAnswers = s.txAnswers := rfl
@[simp] theorem State.stamp_reinitAnswers (s : State) : s.stamp.reinitAnswers = s.reinitAnswers := rfl
@[simp] theorem State.stamp_turnCount (s : State) : s.stamp.turnCount = s.turnCount := rfl
@[simp] theorem State.stamp_txCount (s : State) : s.stamp.txCount = s.txCount := rfl
@[simp] theorem State.stamp_reinitCount (s : State) : s.stamp.reinitCount = s.reinitCount := rfl
@[simp] theorem State.stamp_skips (s : State) : s.stamp.skips = s.skips := rfl

/-! ## `State.appendByte` -/

@[simp] theorem State.appendByte_created (s : State) (b : Byte) : (s.appendByte b).created = s.created := rfl
@[simp] theorem State.appendByte_enabled (s : State) (b : Byte) : (s.appendByte b).enabled = s.enabled := rfl
@[simp] theorem State.appendByte_respTimeout (s : State) (b : Byte) : (s.appendByte b).respTimeout = s.respTimeout := rfl
@[simp] theorem State.appendByte_gyro (s : State) (b : Byte) : (s.appendByte b).gyro = s.gyro := rfl
@[simp] theorem State.appendByte_angle (s : State) (b : Byte) : (s.appendByte b).angle = s.angle := rfl
@[simp] theorem State.appendByte_acc (s : State) (b : Byte) : (s.appendByte b).acc = s.acc := rfl
@[simp] theorem State.appendByte_mag (s : State) (b : Byte) : (s.appendByte b).mag = s.mag := rfl
@[simp] theorem State.appendByte_temp (s : State) (b : Byte) : (s.appendByte b).temp = s.temp := rfl
@[simp] theorem State.appendByte_version (s : State) (b : Byte) : (s.appendByte b).version = s.version := rfl
@[simp] theorem State.appendByte_ts (s : State) (b : Byte) : (s.appendByte b).ts = s.ts := rfl
@[simp] theorem State.appendByte_valid (s : State) (b : Byte) : (s.appendByte b).valid = s.valid := rfl
@[simp] theorem State.appendByte_fb (s : State) (b : Byte) : (s.appendByte b).fb = s.fb.setIfInBounds s.cursor.toNat b := rfl
@[simp] theorem State.appendByte_cursor (s : State) (b : Byte) : (s.appendByte b).cursor = s.cursor + 1 := rfl
@[simp] theorem State.appendByte_fstate (s : State) (b : Byte) : (s.appendByte b).fstate = s.fstate := rfl
@[simp] theorem State.appendByte_wdLast (s : State) (b : Byte) : (s.appendByte b).wdLast = s.wdLast := rfl
@[simp] theorem State.appendByte_wdTimeout (s : State) (b : Byte) : (s.appendByte b).wdTimeout = s.wdTimeout := rfl
@[simp] theorem State.appendByte_wdEnabled (s : State) (b : Byte) : (s.appendByte b).wdEnabled = s.wdEnabled := rfl
@[simp] theorem State.appendByte_wdCount (s : State) (b : Byte) : (s.appendByte b).wdCount = s.wdCount := rfl
@[simp] theorem State.appendByte_cePhase (s : State) (b : Byte) : (s.appendByte b).cePhase = s.cePhase := rfl
@[simp] theorem State.appendByte_ceFrame (s : State) (b : Byte) : (s.appendByte b).ceFrame = s.ceFrame := rfl
@[simp] theorem State.appendByte_ceT0 (s : State) (b : Byte) : (s.appendByte b).ceT0 = s.ceT0 := rfl
@[simp] theorem State.appendByte_ceOp (s : State) (b : Byte) : (s.appendByte b).ceOp = s.ceOp := rfl
@[simp] theorem State.appendByte_tAbs (s : State) (b : Byte) : (s.appendByte b).tAbs = s.tAbs := rfl
@[simp] theorem State.appendByte_hostIn (s : State) (b : Byte) : (s.appendByte b).hostIn = s.hostIn := rfl
@[simp] theorem State.appendByte_rxIn (s : State) (b : Byte) : (s.appendByte b).rxIn = s.rxIn := rfl
@[simp] theorem State.appendByte_out (s : State) (b : Byte) : (s.appendByte b).out = s.out := rfl
@[simp] theorem State.appendByte_params (s : State) (b : Byte) : (s.appendByte b).params = s.params := rfl
@[simp] theorem State.appendByte_turns (s : State) (b : Byte) : (s.appendByte b).turns = s.turns := rfl
@[simp] theorem State.appendByte_txAnswers (s : State) (b : Byte) : (s.appendByte b).txAnswers = s.txAnswers := rfl
@[simp] theorem State.appendByte_reinitAnswers (s : State) (b : Byte) : (s.appendByte b).reinitAnswers = s.reinitAnswers := rfl
@[simp] theorem State.appendByte_turnCount (s : State) (b : Byte) : (s.appendByte b).turnCount = s.turnCount := rfl
@[simp] theorem State.appendByte_txCount (s : State) (b : Byte) : (s.appendByte b).txCount = s.txCount := rfl
@[simp] theorem State.appendByte_reinitCount (s : State) (b : Byte) : (s.appendByte b).reinitCount = s.reinitCount := rfl
@[simp] theorem State.appendByte_skips (s : State) (b : Byte) : (s.appendByte b).skips = s.skips := rfl

/-! ## `State.startSequence` -/

@[simp] theorem State.startSequence_created (s : State) (op : ConfigOp) (c : CmdFrame) : (s.startSequence op c).created = s.created := rfl
@[simp] theorem State.startSequence_enabled (s : State) (op : ConfigOp) (c : CmdFrame) : (s.startSequence op c).enabled = s.enabled := rfl
@[simp] theorem State.startSequence_respTimeout (s : State) (op : ConfigOp) (c : CmdFrame) : (s.startSequence op c).respTimeout = s.respTimeout := rfl
@[simp] theorem State.startSequence_gyro (s : State) (op : ConfigOp) (c : CmdFrame) : (s.startSequence op c).gyro = s.gyro := rfl
@[simp] theorem State.startSequence_angle (s : State) (op : ConfigOp) (c : CmdFrame) : (s.startSequence op c).angle = s.angle := rfl
@[simp] theorem State.startSequence_acc (s : State) (op : ConfigOp) (c : CmdFrame) : (s.startSequence op c).acc = s.acc := rfl
@[simp] theorem State.startSequence_mag (s : State) (op : ConfigOp) (c : CmdFrame) : (s.startSequence op c).mag = s.mag := rfl
@[simp] theorem State.startSequence_temp (s : State) (op : ConfigOp) (c : CmdFrame) : (s.startSequence op c).temp = s.temp := rfl
@[simp] theorem State.startSequence_version (s : State) (op : ConfigOp) (c : CmdFrame) : (s.startSequence op c).version = s.version := rfl
@[simp] theorem State.startSequence_ts (s : State) (op : ConfigOp) (c : CmdFrame) : (s.startSequence op c).ts = s.ts := rfl
@[simp] theorem State.startSequence_valid (s : State) (op : ConfigOp) (c : CmdFrame) : (s.startSequence op c).valid = s.valid := rfl
@[simp] theorem State.startSequence_fb (s : State) (op : ConfigOp) (c : CmdFrame) : (s.startSequence op c).fb = s.fb := rfl
@[simp] theorem State.startSequence_cursor (s : State) (op : ConfigOp) (c : CmdFrame) : (s.startSequence op c).cursor = s.cursor := rfl
@[simp] theorem State.startSequence_fstate (s : State) (op : ConfigOp) (c : CmdFrame) : (s.startSequence op c).fstate = s.fstate := rfl
@[simp] theorem State.startSequence_wdLast (s : State) (op : ConfigOp) (c : CmdFrame) : (s.startSequence op c).wdLast = s.wdLast := rfl
@[simp] theorem State.startSequence_wdTimeout (s : State) (op : ConfigOp) (c : CmdFrame) : (s.startSequence op c).wdTimeout = s.wdTimeout := rfl
@[simp] theorem State.startSequence_wdEnabled (s : State) (op : ConfigOp) (c : CmdFrame) : (s.startSequence op c).wdEnabled = s.wdEnabled := rfl
@[simp] theorem State.startSequence_wdCount (s : State) (op : ConfigOp) (c : CmdFrame) : (s.startSequence op c).wdCount = s.wdCount := rfl
@[simp] theorem State.startSequence_cePhase (s : State) (op : ConfigOp) (c : CmdFrame) : (s.startSequence op c).cePhase = .waitUnlock := rfl
@[simp] theorem State.startSequence_ceFrame (s : State) (op : ConfigOp) (c : CmdFrame) : (s.startSequence op c).ceFrame = c := rfl
@[simp] theorem State.startSequence_ceT0 (s : State) (op : ConfigOp) (c : CmdFrame) : (s.startSequence op c).ceT0 = s.now := rfl
@[simp] theorem State.startSequence_ceOp (s : State) (op : ConfigOp) (c : CmdFrame) : (s.startSequence op c).ceOp = op := rfl
@[simp] theorem State.startSequence_tAbs (s : State) (op : ConfigOp) (c : CmdFrame) : (s.startSequence op c).tAbs = s.tAbs := rfl
@[simp] theorem State.startSequence_hostIn (s : State) (op : ConfigOp) (c : CmdFrame) : (s.startSequence op c).hostIn = s.hostIn := rfl
@[simp] theorem State.startSequence_rxIn (s : State) (op : ConfigOp) (c : CmdFrame) : (s.startSequence op c).rxIn = s.rxIn := rfl
@[simp] theorem State.startSequence_out (s : State) (op : ConfigOp) (c : CmdFrame) : (s.startSequence op c).out = s.out := rfl
@[simp] theorem State.startSequence_params (s : State) (op : ConfigOp) (c : CmdFrame) : (s.startSequence op c).params = s.params := rfl
@[simp] theorem State.startSequence_turns (s : State) (op : ConfigOp) (c : CmdFrame) : (s.startSequence op c).turns = s.turns := rfl
@[simp] theorem State.startSequence_txAnswers (s : State) (op : ConfigOp) (c : CmdFrame) : (s.startSequence op c).txAnswers = s.txAnswers := rfl
@[simp] theorem State.startSequence_reinitAnswers (s : State) (op : ConfigOp) (c : CmdFrame) : (s.startSequence op c).reinitAnswers = s.reinitAnswers := rfl
@[simp] theorem State.startSequence_turnCount (s : State) (op : ConfigOp) (c : CmdFrame) : (s.startSequence op c).turnCount = s.turnCount := rfl
@[simp] theorem State.startSequence_txCount (s : State) (op : ConfigOp) (c : CmdFrame) : (s.startSequence op c).txCount = s.txCount := rfl
@[simp] theorem State.startSequence_reinitCount (s : State) (op : ConfigOp) (c : CmdFrame) : (s.startSequence op c).reinitCount = s.reinitCount := rfl
@[simp] theorem State.startSequence_skips (s : State) (op : ConfigOp) (c : CmdFrame) : (s.startSequence op c).skips = s.skips := rfl

/-! ## `State.later` -/

@[simp] theorem State.later_created (s : State) (ms : Nat) : (s.later ms).created = s.created := rfl
@[simp] theorem State.later_enabled (s : State) (ms : Nat) : (s.later ms).enabled = s.enabled := rfl
@[simp] theorem State.later_respTimeout (s : State) (ms : Nat) : (s.later ms).respTimeout = s.respTimeout := rfl
@[simp] theorem State.later_gyro (s : State) (ms : Nat) : (s.later ms).gyro = s.gyro := rfl
@[simp] theorem State.later_angle (s : State) (ms : Nat) : (s.later ms).angle = s.angle := rfl
@[simp] theorem State.later_acc (s : State) (ms : Nat) : (s.later ms).acc = s.acc := rfl
@[simp] theorem State.later_mag (s : State) (ms : Nat) : (s.later ms).mag = s.mag := rfl
@[simp] theorem State.later_temp (s : State) (ms : Nat) : (s.later ms).temp = s.temp := rfl
@[simp] theorem State.later_version (s : State) (ms : Nat) : (s.later ms).version = s.version := rfl
@[simp] theorem State.later_ts (s : State) (ms : Nat) : (s.later ms).ts = s.ts := rfl
@[simp] theorem State.later_valid (s : State) (ms : Nat) : (s.later ms).valid = s.valid := rfl
@[simp] theorem State.later_fb (s : State) (ms : Nat) : (s.later ms).fb = s.fb := rfl
@[simp] theorem State.later_cursor (s : State) (ms : Nat) : (s.later ms).cursor = s.cursor := rfl
@[simp] theorem State.later_fstate (s : State) (ms : Nat) : (s.later ms).fstate = s.fstate := rfl
@[simp] theorem State.later_wdLast (s : State) (ms : Nat) : (s.later ms).wdLast = s.wdLast := rfl
@[simp] theorem State.later_wdTimeout (s : State) (ms : Nat) : (s.later ms).wdTimeout = s.wdTimeout := rfl
@[simp] theorem State.later_wdEnabled (s : State) (ms : Nat) : (s.later ms).wdEnabled = s.wdEnabled := rfl
@[simp] theorem State.later_wdCount (s : State) (ms : Nat) : (s.later ms).wdCount = s.wdCount := rfl
@[simp] theorem State.later_cePhase (s : State) (ms : Nat) : (s.later ms).cePhase = s.cePhase := rfl
@[simp] theorem State.later_ceFrame (s : State) (ms : Nat) : (s.later ms).ceFrame = s.ceFrame := rfl
@[simp] theorem State.later_ceT0 (s : State) (ms : Nat) : (s.later ms).ceT0 = s.ceT0 := rfl
@[simp] theorem State.later_ceOp (s : State) (ms : Nat) : (s.later ms).ceOp = s.ceOp := rfl
@[simp] theorem State.later_tAbs (s : State) (ms : Nat) : (s.later ms).tAbs = s.tAbs + ms := rfl
@[simp] theorem State.later_hostIn (s : State) (ms : Nat) : (s.later ms).hostIn = s.hostIn := rfl
@[simp] theorem State.later_rxIn (s : State) (ms : Nat) : (s.later ms).rxIn = s.rxIn := rfl
@[simp] theorem State.later_out (s : State) (ms : Nat) : (s.later ms).out = s.out := rfl
@[simp] theorem State.later_params (s : State) (ms : Nat) : (s.later ms).params = s.params := rfl
@[simp] theorem State.later_turns (s : State) (ms : Nat) : (s.later ms).turns = s.turns := rfl
@[simp] theorem State.later_txAnswers (s : State) (ms : Nat) : (s.later ms).txAnswers = s.txAnswers := rfl
@[simp] theorem State.later_reinitAnswers (s : State) (ms : Nat) : (s.later ms).reinitAnswers = s.reinitAnswers := rfl
@[simp] theorem State.later_turnCount (s : State) (ms : Nat) : (s.later ms).turnCount = s.turnCount := rfl
@[simp] theorem State.later_txCount (s : State) (ms : Nat) : (s.later ms).txCount = s.txCount := rfl
@[simp] theorem State.later_reinitCount (s : State) (ms : Nat) : (s.later ms).reinitCount = s.reinitCount := rfl
@[simp] theorem State.later_skips (s : State) (ms : Nat) : (s.later ms).skips = s.skips := rfl

/-! ## `State.beginTurn` -/

@[simp] theorem State.beginTurn_created (s : State) : s.beginTurn.created = s.created := rfl
@[simp] theorem State.beginTurn_enabled (s : State) : s.beginTurn.enabled = s.enabled := rfl
@[simp] theorem State.beginTurn_respTimeout (s : State) : s.beginTurn.respTimeout = s.respTimeout := rfl
@[simp] theorem State.beginTurn_gyro (s : State) : s.beginTurn.gyro = s.gyro := rfl
@[simp] theorem State.beginTurn_angle (s : State) : s.beginTurn.angle = s.angle := rfl
@[simp] theorem State.beginTurn_acc (s : State) : s.beginTurn.acc = s.acc := rfl
@[simp] theorem State.beginTurn_mag (s : State) : s.beginTurn.mag = s.mag := rfl
@[simp] theorem State.beginTurn_temp (s : State) : s.beginTurn.temp = s.temp := rfl
@[simp] theorem State.beginTurn_version (s : State) : s.beginTurn.version = s.version := rfl
@[simp] theorem State.beginTurn_ts (s : State) : s.beginTurn.ts = s.ts := rfl
@[simp] theorem State.beginTurn_valid (s : State) : s.beginTurn.valid = s.valid := rfl
@[simp] theorem State.beginTurn_fb (s : State) : s.beginTurn.fb = s.fb := rfl
@[simp] theorem State.beginTurn_cursor (s : State) : s.beginTurn.cursor = s.cursor := rfl
@[simp] theorem State.beginTurn_fstate (s : State) : s.beginTurn.fstate = s.fstate := rfl
@[simp] theorem State.beginTurn_wdLast (s : State) : s.beginTurn.wdLast = s.wdLast := rfl
@[simp] theorem State.beginTurn_wdTimeout (s : State) : s.beginTurn.wdTimeout = s.wdTimeout := rfl
@[simp] theorem State.beginTurn_wdEnabled (s : State) : s.beginTurn.wdEnabled = s.wdEnabled := rfl
@[simp] theorem State.beginTurn_wdCount (s : State) : s.beginTurn.wdCount = s.wdCount := rfl
@[simp] theorem State.beginTurn_cePhase (s : State) : s.beginTurn.cePhase = s.cePhase := rfl
@[simp] theorem State.beginTurn_ceFrame (s : State) : s.beginTurn.ceFrame = s.ceFrame := rfl
@[simp] theorem State.beginTurn_ceT0 (s : State) : s.beginTurn.ceT0 = s.ceT0 := rfl
@[simp] theorem State.beginTurn_ceOp (s : State) : s.beginTurn.ceOp = s.ceOp := rfl
@[simp] theorem State.beginTurn_tAbs (s : State) : s.beginTurn.tAbs = s.tAbs + s.nextTurn.advance := rfl
@[simp] theorem State.beginTurn_hostIn (s : State) : s.beginTurn.hostIn = s.hostIn := rfl
@[simp] theorem State.beginTurn_rxIn (s : State) : s.beginTurn.rxIn = s.rxIn := rfl
@[simp] theorem State.beginTurn_out (s : State) : s.beginTurn.out = s.out := rfl
@[simp] theorem State.beginTurn_params (s : State) : s.beginTurn.params = s.params := rfl
@[simp] theorem State.beginTurn_turns (s : State) : s.beginTurn.turns = s.turns.tail := rfl
@[simp] theorem State.beginTurn_txAnswers (s : State) : s.beginTurn.txAnswers = s.txAnswers := rfl
@[simp] theorem State.beginTurn_reinitAnswers (s : State) : s.beginTurn.reinitAnswers = s.reinitAnswers := rfl
@[simp] theorem State.beginTurn_turnCount (s : State) : s.beginTurn.turnCount = s.turnCount + 1 := rfl
@[simp] theorem State.beginTurn_txCount (s : State) : s.beginTurn.txCount = s.txCount := rfl
@[simp] theorem State.beginTurn_reinitCount (s : State) : s.beginTurn.reinitCount = s.reinitCount := rfl

/-- The count of turns without a step of the pending sequence, once a turn has begun (42_command_encoder.md R192). -/
theorem State.beginTurn_skips (s : State) :
    s.beginTurn.skips = if s.beginTurn.passedOver s.nextTurn.agent then s.skips + 1 else 0 := rfl

end Sys2Proof.Machine
end

