-- ==== Sys2Proof/Laws/Ops.lean ====
section
/-! SUPPORT. One lemma per shared operation, saying what it can do: transmit requests, results, recovery, byte steps, FEED, the
issue step, the read request, and a whole step. -/

namespace Sys2Proof.Machine

/-! ## Time is fixed within a step -/

@[simp] theorem State.emit_now (s : State) (o : Output) : (s.emit o).now = s.now := rfl
@[simp] theorem State.answer_now (s : State) (c : Word) : (s.answer c).now = s.now := rfl
@[simp] theorem State.transmit_now (s : State) (c : CmdFrame) : (s.transmit c).now = s.now := rfl
@[simp] theorem State.reinit_now (s : State) : s.reinit.now = s.now := rfl
@[simp] theorem State.complete_now (s : State) (c : Word) : (s.complete c).now = s.now := rfl
@[simp] theorem State.resetFrame_now (s : State) : s.resetFrame.now = s.now := rfl
@[simp] theorem State.clearSnapshot_now (s : State) : s.clearSnapshot.now = s.now := rfl
@[simp] theorem State.wdFeed_now (s : State) : s.wdFeed.now = s.now := rfl
@[simp] theorem State.stamp_now (s : State) : s.stamp.now = s.now := rfl
@[simp] theorem State.appendByte_now (s : State) (b : Byte) : (s.appendByte b).now = s.now := rfl

/-! ## Outputs -/

/-- A result on HOST is the one thing `answer` adds. -/
theorem State.answer_eq_answered (s : State) (c : Word) : s.answer c = s.answered c := rfl

/-- A transmit request by itself. -/
theorem State.transmit_eq_sent (s : State) (c : CmdFrame) : s.transmit c = s.sent c [] := rfl

/-- A transmit request and then an output. -/
theorem State.transmit_emit_eq_sent (s : State) (c : CmdFrame) (o : Output) : (s.transmit c).emit o = s.sent c [o] := by
  simp [State.transmit, State.emit, State.tookTxAnswer, State.sent]

/-! ## Recovery -/

/-- The outputs of a recovery, by the answer to its reinitialisation (43_watchdog.md R234). -/
def recoveryOutputs (answer : ReinitAnswer) : List Output :=
  match answer with
  | .ok => [.trAbort, .trReinit .ok, .trArm]
  | .fail => [.trAbort, .trReinit .fail, .recoveryFailed]

/-- The transport part of a recovery writes no register. -/
theorem State.recoverTransport_eq (s : State) :
    s.recoverTransport =
      { s with
        reinitAnswers := s.reinitAnswers.tail, reinitCount := s.reinitCount + 1
        out := s.out ++ recoveryOutputs s.nextReinitAnswer } := by
  have h : (s.emit .trAbort).nextReinitAnswer = s.nextReinitAnswer := rfl
  unfold State.recoverTransport
  simp only [State.reinit, h]
  cases s.nextReinitAnswer <;> simp [State.emit, State.tookReinitAnswer, recoveryOutputs]

/-- A whole recovery (43_watchdog.md R234). -/
theorem State.recover_eq (s : State) :
    s.recover =
      { s with
        fstate := .idle, cursor := 0, valid := false, wdLast := s.now, wdCount := bumpCount s.wdCount
        reinitAnswers := s.reinitAnswers.tail, reinitCount := s.reinitCount + 1
        out := s.out ++ recoveryOutputs s.nextReinitAnswer } := by
  simp only [State.recover, State.recoverTransport_eq]
  rfl

/-! ## Byte steps and FEED -/

/-- What byte steps may write: the frame state, the snapshot and `WD_LAST`; everything else is as before. -/
structure KeepsOutsideIngestion (s t : State) : Prop where
  lifecycle : SameLifecycle s t
  sequencer : SameSequencer s t
  wdTimeout : t.wdTimeout = s.wdTimeout
  wdEnabled : t.wdEnabled = s.wdEnabled
  wdCount : t.wdCount = s.wdCount
  tAbs : t.tAbs = s.tAbs
  hostIn : t.hostIn = s.hostIn
  rxIn : t.rxIn = s.rxIn
  out : t.out = s.out
  params : t.params = s.params
  turns : t.turns = s.turns
  txAnswers : t.txAnswers = s.txAnswers
  reinitAnswers : t.reinitAnswers = s.reinitAnswers
  turnCount : t.turnCount = s.turnCount
  txCount : t.txCount = s.txCount
  reinitCount : t.reinitCount = s.reinitCount
  skips : t.skips = s.skips

/-- A state keeps what it is. -/
theorem KeepsOutsideIngestion.refl (s : State) : KeepsOutsideIngestion s s := by
  constructor <;> simp [SameLifecycle, SameSequencer]

/-- Keeping is transitive. -/
theorem KeepsOutsideIngestion.trans {s t u : State} (h : KeepsOutsideIngestion s t) (k : KeepsOutsideIngestion t u) :
    KeepsOutsideIngestion s u := by
  obtain ⟨⟨a1, a2, a3⟩, ⟨b1, b2, b3, b4⟩⟩ := h
  obtain ⟨⟨c1, c2, c3⟩, ⟨d1, d2, d3, d4⟩⟩ := k
  constructor <;> simp_all [SameLifecycle, SameSequencer]

/-- DECODE's frame: it also keeps the frame state and `WD_LAST`. -/
theorem State.decodePacket_keeps (s : State) :
    KeepsOutsideIngestion s s.decodePacket ∧ SameFrameState s s.decodePacket ∧ s.decodePacket.wdLast = s.wdLast := by
  have stamp : ∀ t : State, KeepsOutsideIngestion s t ∧ SameFrameState s t ∧ t.wdLast = s.wdLast →
      KeepsOutsideIngestion s t.stamp ∧ SameFrameState s t.stamp ∧ t.stamp.wdLast = s.wdLast := fun t h =>
    ⟨h.1.trans (by constructor <;> simp [SameLifecycle, SameSequencer]), h.2.1, h.2.2⟩
  unfold State.decodePacket
  dsimp only
  repeat' split
  · apply stamp
    refine ⟨?_, ?_, ?_⟩
    · constructor <;> simp [SameLifecycle, SameSequencer, State.decodeAcc]
    · simp [SameFrameState, State.decodeAcc]
    · simp [State.decodeAcc]
  · apply stamp
    refine ⟨?_, ?_, ?_⟩
    · constructor <;> simp [SameLifecycle, SameSequencer, State.decodeGyro]
    · simp [SameFrameState, State.decodeGyro]
    · simp [State.decodeGyro]
  · apply stamp
    refine ⟨?_, ?_, ?_⟩
    · constructor <;> simp [SameLifecycle, SameSequencer, State.decodeAngle]
    · simp [SameFrameState, State.decodeAngle]
    · simp [State.decodeAngle]
  · apply stamp
    refine ⟨?_, ?_, ?_⟩
    · constructor <;> simp [SameLifecycle, SameSequencer, State.decodeMag]
    · simp [SameFrameState, State.decodeMag]
    · simp [State.decodeMag]
  · exact ⟨KeepsOutsideIngestion.refl s, ⟨rfl, rfl, rfl⟩, rfl⟩

/-- The frame of the header scan. -/
theorem State.idleStep_keeps (s : State) (b : Byte) : KeepsOutsideIngestion s (s.idleStep b) := by
  unfold State.idleStep
  split <;> constructor <;> simp [SameLifecycle, SameSequencer]

/-- The frame of the checksum validator. -/
theorem State.completeFrame_keeps (s : State) : KeepsOutsideIngestion s s.completeFrame := by
  unfold State.completeFrame
  split
  · refine KeepsOutsideIngestion.trans ?_ (State.decodePacket_keeps _).1
    constructor <;> simp [SameLifecycle, SameSequencer]
  · constructor <;> simp [SameLifecycle, SameSequencer]

/-- The frame of a byte step. -/
theorem State.byteStep_keeps (s : State) (b : Byte) : KeepsOutsideIngestion s (s.byteStep b) := by
  have reset : KeepsOutsideIngestion s s.resetFrame := by constructor <;> simp [SameLifecycle, SameSequencer]
  have append : KeepsOutsideIngestion s (s.appendByte b) := by constructor <;> simp [SameLifecycle, SameSequencer]
  unfold State.byteStep
  split
  · exact s.idleStep_keeps b
  · split
    · unfold State.recvStep
      dsimp only
      split
      · exact append.trans (State.completeFrame_keeps _)
      · exact append
    · exact reset.trans (State.idleStep_keeps _ b)
  · exact reset.trans (State.idleStep_keeps _ b)
  · exact reset.trans (State.idleStep_keeps _ b)

/-- The frame of a chunk's byte steps. -/
theorem State.feedBytes_keeps (data : List Byte) : ∀ s : State, KeepsOutsideIngestion s (s.feedBytes data) := by
  induction data with
  | nil => exact KeepsOutsideIngestion.refl
  | cons b data ih => exact fun s => (s.byteStep_keeps b).trans (ih _)

/-- The three ways FEED ends (40_frame_assembler.md R130). -/
theorem State.feed_cases (s : State) (data : List Byte) :
    (s.live = false ∧ s.feed data = s.answered codeState) ∨
      (s.live = true ∧ data = [] ∧ s.feed data = s.answered codeParam) ∨
      (s.live = true ∧ data ≠ [] ∧ s.feed data = (s.feedBytes data).answered codeOk) := by
  unfold State.feed
  by_cases hl : s.live = true
  · by_cases hd : data = [] <;> simp [hl, hd, State.answer_eq_answered]
  · simp [hl, State.answer_eq_answered]

/-! ## The command encoder -/

/-- The four ways a configuration operation's issue step ends (42_command_encoder.md R190, R193). -/
theorem State.configure_cases (s : State) (op : ConfigOp) (reg : Byte) (data : Half) (ok : Bool) :
    ((s.live = false ∨ s.cePhase ≠ .idle) ∧ s.configure op reg data ok = s.answered codeState) ∨
      (s.live = true ∧ s.cePhase = .idle ∧ ok = false ∧ s.configure op reg data ok = s.answered codeParam) ∨
      (s.live = true ∧ s.cePhase = .idle ∧ ok = true ∧ (∃ n, s.nextTxAnswer = .fail n) ∧
        s.configure op reg data ok = s.sent unlockFrame [.result codeTransport]) ∨
      (s.live = true ∧ s.cePhase = .idle ∧ ok = true ∧ s.nextTxAnswer = .ok ∧
        s.configure op reg data ok = (s.sent unlockFrame []).startSequence op (writeFrame reg data)) := by
  unfold State.configure
  by_cases hl : s.live = true
  · by_cases hp : s.cePhase = .idle
    · cases ok
      · simp [hl, hp, State.answer_eq_answered]
      · cases ha : s.nextTxAnswer
        · simp [hl, hp, State.transmit_eq_sent]
        · simp [hl, hp, State.answer, State.transmit_emit_eq_sent]
    · simp [hl, hp, State.answer_eq_answered]
  · simp [hl, State.answer_eq_answered]

/-- The three ways READ_REG ends (42_command_encoder.md R205). -/
theorem State.requestRead_cases (s : State) (addr : Word) :
    ((s.live = false ∨ s.cePhase ≠ .idle) ∧ s.requestRead addr = s.answered codeState) ∨
      (s.live = true ∧ s.cePhase = .idle ∧ readAddrOk addr = false ∧ s.requestRead addr = s.answered codeParam) ∨
      (s.live = true ∧ s.cePhase = .idle ∧ readAddrOk addr = true ∧
        s.requestRead addr =
          s.sent (readRequestFrame (addr.setWidth 8))
            [.result (if s.nextTxAnswer = .ok then codeOk else codeTransport)]) := by
  unfold State.requestRead
  by_cases hl : s.live = true
  · by_cases hp : s.cePhase = .idle
    · cases hk : readAddrOk addr
      · simp [hl, hp, State.answer_eq_answered]
      · cases ha : s.nextTxAnswer <;> simp [hl, hp, State.answer, State.transmit_emit_eq_sent]
    · simp [hl, hp, State.answer_eq_answered]
  · simp [hl, State.answer_eq_answered]

/-! ## A step -/

/-- Every instruction answers a next state: the block has no trap (60_exceptions.md R300). -/
theorem exec_next (i : Instr) (s : State) : ∃ t, exec i s = .next t := by
  cases i <;> exact ⟨_, rfl⟩

/-- What a step that answers `t` did: it ran no instruction of the table and its turn settled, or it ran one and retired it. -/
theorem step_cases {s t : State} (h : step s = .next t) :
    s.beginTurn.fetch s.nextTurn.agent = .settled t ∨
      ∃ i before after, s.beginTurn.fetch s.nextTurn.agent = .run i before ∧ exec i before = .next after ∧
        t = after.retire s.nextTurn.agent before := by
  unfold step at h
  dsimp only at h
  split at h
  · rename_i u hf
    left
    rw [hf]
    injection h with h
    rw [h]
  · rename_i i before hf
    obtain ⟨after, ha⟩ := exec_next i before
    rw [ha] at h
    injection h with h
    exact Or.inr ⟨i, before, after, hf, ha, h.symm⟩

end Sys2Proof.Machine
end

