-- ==== Sys2Proof/Laws/PerInstr.lean ====
section
/-! SUPPORT. Statements made for every instruction, one lemma per constructor. -/

namespace Sys2Proof.Laws

/-- How many bytes an instruction takes on its stream: R100's length column for HOSTCMD, and the fixed lengths of FRAME11 and
CMD5 (30_encoding.md R90, R112). -/
def streamLength (i : Instr) : Nat :=
  match i with
  | .create _ _ => 6
  | .feed data => 3 + data.length
  | .enable _ | .get _ | .status _ | .wdtEnable _ => 2
  | .wdtInit _ | .setBaud _ | .setRate _ | .setContent _ | .setBandwidth _ | .readReg _ => 5
  | .wdtCheck | .accCalStart | .accCalStop | .magCalStart | .magCalStop | .manualCalEnter | .manualCalExit | .zeroYaw => 1
  | .frameAcc _ _ _ _ _ | .frameGyro _ _ _ _ _ | .frameAngle _ _ _ _ _ | .frameMag _ _ _ _ _
  | .frameOther _ _ _ _ _ _ => 11
  | .cmdUnlock | .cmdSave | .cmdReadReq _ | .cmdWrite _ _ => 5

/-- The encoder writes exactly the bytes the tables of 30_encoding.md give an instruction. -/
def EncodedLength.Statement (i : Instr) : Prop := (encode i).length = streamLength i

theorem EncodedLength.create (tp : Byte) (timeout : Word) : EncodedLength.Statement (.create tp timeout) := rfl

theorem EncodedLength.enable (flag : Byte) : EncodedLength.Statement (.enable flag) := rfl

theorem EncodedLength.feed (data : List Byte) : EncodedLength.Statement (.feed data) := by
  simp only [EncodedLength.Statement, encode, halfBytes, streamLength, List.length_append, List.length_cons, List.length_nil]

theorem EncodedLength.get (sel : Byte) : EncodedLength.Statement (.get sel) := rfl

theorem EncodedLength.status (sel : Byte) : EncodedLength.Statement (.status sel) := rfl

theorem EncodedLength.wdtInit (timeout : Word) : EncodedLength.Statement (.wdtInit timeout) := rfl

theorem EncodedLength.wdtEnable (flag : Byte) : EncodedLength.Statement (.wdtEnable flag) := rfl

theorem EncodedLength.wdtCheck : EncodedLength.Statement .wdtCheck := rfl

theorem EncodedLength.setBaud (code : Word) : EncodedLength.Statement (.setBaud code) := rfl

theorem EncodedLength.setRate (code : Word) : EncodedLength.Statement (.setRate code) := rfl

theorem EncodedLength.setContent (mask : Word) : EncodedLength.Statement (.setContent mask) := rfl

theorem EncodedLength.setBandwidth (code : Word) : EncodedLength.Statement (.setBandwidth code) := rfl

theorem EncodedLength.accCalStart : EncodedLength.Statement .accCalStart := rfl

theorem EncodedLength.accCalStop : EncodedLength.Statement .accCalStop := rfl

theorem EncodedLength.magCalStart : EncodedLength.Statement .magCalStart := rfl

theorem EncodedLength.magCalStop : EncodedLength.Statement .magCalStop := rfl

theorem EncodedLength.manualCalEnter : EncodedLength.Statement .manualCalEnter := rfl

theorem EncodedLength.manualCalExit : EncodedLength.Statement .manualCalExit := rfl

theorem EncodedLength.zeroYaw : EncodedLength.Statement .zeroYaw := rfl

theorem EncodedLength.readReg (addr : Word) : EncodedLength.Statement (.readReg addr) := rfl

theorem EncodedLength.frameAcc (f0 : Half) (f1 : Half) (f2 : Half) (f3 : Half) (sum : Byte) : EncodedLength.Statement (.frameAcc f0 f1 f2 f3 sum) := rfl

theorem EncodedLength.frameGyro (f0 : Half) (f1 : Half) (f2 : Half) (f3 : Half) (sum : Byte) : EncodedLength.Statement (.frameGyro f0 f1 f2 f3 sum) := rfl

theorem EncodedLength.frameAngle (f0 : Half) (f1 : Half) (f2 : Half) (f3 : Half) (sum : Byte) : EncodedLength.Statement (.frameAngle f0 f1 f2 f3 sum) := rfl

theorem EncodedLength.frameMag (f0 : Half) (f1 : Half) (f2 : Half) (f3 : Half) (sum : Byte) : EncodedLength.Statement (.frameMag f0 f1 f2 f3 sum) := rfl

theorem EncodedLength.frameOther (tag : Byte) (f0 : Half) (f1 : Half) (f2 : Half) (f3 : Half) (sum : Byte) : EncodedLength.Statement (.frameOther tag f0 f1 f2 f3 sum) := rfl

theorem EncodedLength.cmdUnlock : EncodedLength.Statement .cmdUnlock := rfl

theorem EncodedLength.cmdSave : EncodedLength.Statement .cmdSave := rfl

theorem EncodedLength.cmdReadReq (addr : Byte) : EncodedLength.Statement (.cmdReadReq addr) := rfl

theorem EncodedLength.cmdWrite (addr : Byte) (data : Half) : EncodedLength.Statement (.cmdWrite addr data) := rfl

end Sys2Proof.Laws
end

