-- ==== Sys2Proof/Tests/Slice0.lean ====
section
/-! SUPPORT. Tests of single operations against 95_test_vectors.md, and for every statement with hypotheses a state that meets
them. Expected values are the spec's own: FR, FA, PD, CE, WD and LC name its vectors. -/

namespace Sys2Proof.Tests

open Sys2Proof Sys2Proof.Machine

/-! ## The vectors' setting: their parameters (95_test_vectors.md; the register addresses are any seven bytes) -/

/-- `RB` .. `RY` are 1 to 7. -/
def testParams : Params := ⟨1, 2, 3, 4, 5, 6, 7, 50, 50, 50, 100, .f32Stepwise⟩

/-- The power-on block. -/
def powerOn : State := { State.reset with params := testParams, txAnswers := [.ok], reinitAnswers := [.ok] }

/-- The fresh block: after `CREATE 1, 0` and `ENABLE 1` at 0. -/
def fresh : State := { powerOn with created := true, enabled := true, respTimeout := 100 }

/-- The state at another time. -/
def atTime (t : Nat) (s : State) : State := { s with tAbs := t }

/-- The state after an instruction that answers a next state. -/
def after (i : Instr) (s : State) : State :=
  match exec i s with
  | .next t => t
  | .fault _ => s
  | .refused _ => s

/-- The state after one step that answers a next state. -/
def stepped (s : State) : State :=
  match step s with
  | .next t => t
  | .fault _ => s
  | .refused _ => s

/-- The fresh block with a configuration sequence pending since `now = 100`. -/
def pending (phase : CePhase) : State :=
  { atTime 100 fresh with
    cePhase := phase, ceFrame := ⟨0xFF, 0xAA, 2, 6, 0⟩, ceT0 := 100, ceOp := .setRate
    turns := [⟨50, .sequencer⟩, ⟨50, .sequencer⟩, ⟨50, .sequencer⟩], txAnswers := [.ok, .ok] }

/-! ## WellFormed: each check refuses an ill-formed term -/

theorem test_wf_refuses_long_feed (b : Byte) : (Instr.feed (List.replicate 65536 b)).wf = false := by
  simp only [Instr.wf, feedLengthOk, List.length_replicate]
  decide
theorem test_wf_admits_longest_feed (b : Byte) : (Instr.feed (List.replicate 65535 b)).wf = true := by
  simp only [Instr.wf, feedLengthOk, List.length_replicate]
  decide
theorem test_wf_refuses_decoded_tags :
    [0x51, 0x52, 0x53, 0x54].map (fun tag => (Instr.frameOther tag 0 0 0 0 0).wf) = [false, false, false, false] := by
  decide
theorem test_wf_refuses_unlock_as_write : (Instr.cmdWrite 0x69 0xB588).wf = false := by decide
theorem test_wf_refuses_save_as_write : (Instr.cmdWrite 0x00 0x0000).wf = false := by decide
theorem test_wf_refuses_read_request_as_write : (Instr.cmdWrite 0x27 0x00FF).wf = false := by decide

/-! ## Decoding: words written out from 30_encoding.md R91, R95 to R98, R100, R101 -/

theorem test_decode_create : decodeHost [0x01, 0x01, 0xFA, 0x00, 0x00, 0x00] = .ok (.create 1 250, []) := by decide
theorem test_decode_enable : decodeHost [0x02, 0x01, 0x02] = .ok (.enable 1, [0x02]) := by decide
theorem test_decode_feed : decodeHost [0x03, 0x02, 0x00, 0x55, 0x51, 0x12] = .ok (.feed [0x55, 0x51], [0x12]) := by decide
theorem test_decode_get : decodeHost [0x04, 0x0C] = .ok (.get 0x0C, []) := by decide
theorem test_decode_status : decodeHost [0x05, 0x09] = .ok (.status 0x09, []) := by decide
theorem test_decode_wdtInit : decodeHost [0x10, 0xE8, 0x03, 0x00, 0x00] = .ok (.wdtInit 1000, []) := by decide
theorem test_decode_wdtEnable : decodeHost [0x11, 0x01] = .ok (.wdtEnable 1, []) := by decide
theorem test_decode_wdtCheck : decodeHost [0x12] = .ok (.wdtCheck, []) := by decide
theorem test_decode_setBaud : decodeHost [0x20, 0x06, 0x00, 0x00, 0x00] = .ok (.setBaud 6, []) := by decide
theorem test_decode_setRate : decodeHost [0x21, 0x0A, 0x00, 0x00, 0x00] = .ok (.setRate 10, []) := by decide
theorem test_decode_setContent : decodeHost [0x22, 0x00, 0x01, 0x00, 0x00] = .ok (.setContent 256, []) := by decide
theorem test_decode_setBandwidth :
    decodeHost [0x23, 0x00, 0x00, 0x01, 0x02] = .ok (.setBandwidth 0x02010000, []) := by decide
theorem test_decode_calibrations :
    [0x24, 0x25, 0x26, 0x27, 0x28, 0x29, 0x2A].map (fun op => decodeHost [op]) =
      [.ok (.accCalStart, []), .ok (.accCalStop, []), .ok (.magCalStart, []), .ok (.magCalStop, []),
        .ok (.manualCalEnter, []), .ok (.manualCalExit, []), .ok (.zeroYaw, [])] := by decide
theorem test_decode_readReg : decodeHost [0x2B, 0x34, 0x00, 0x00, 0x00] = .ok (.readReg 0x34, []) := by decide
/-- FR-15. -/
theorem test_decode_frameAcc :
    decodeFrame [0x55, 0x51, 0x00, 0x08, 0x00, 0xF8, 0xFF, 0x7F, 0x00, 0x00, 0x24] =
      .ok (.frameAcc 2048 (-2048) 32767 0 0x24, []) := by decide
/-- FR-1. -/
theorem test_decode_frameGyro :
    decodeFrame [0x55, 0x52, 0x00, 0x00, 0x00, 0x00, 0x00, 0x40, 0x00, 0x00, 0xE7] =
      .ok (.frameGyro 0 0 16384 0 0xE7, []) := by decide
/-- FR-16. -/
theorem test_decode_frameAngle :
    decodeFrame [0x55, 0x53, 0x00, 0x00, 0x00, 0x00, 0x00, 0x40, 0x02, 0x01, 0xEB] =
      .ok (.frameAngle 0 0 16384 0x0102 0xEB, []) := by decide
/-- FR-4. -/
theorem test_decode_frameMag :
    decodeFrame [0x55, 0x54, 0x64, 0x00, 0x9C, 0xFF, 0x00, 0x00, 0x54, 0x01, 0xFD] =
      .ok (.frameMag 100 (-100) 0 340 0xFD, []) := by decide
/-- FR-13: the header value is a tag like any other. -/
theorem test_decode_frameOther :
    decodeFrame [0x55, 0x55, 0, 0, 0, 0, 0, 0, 0, 0, 0xAA] = .ok (.frameOther 0x55 0 0 0 0 0xAA, []) := by decide
theorem test_decode_cmdUnlock : decodeCommand [0xFF, 0xAA, 0x69, 0x88, 0xB5] = .ok (.cmdUnlock, []) := by decide
theorem test_decode_cmdSave : decodeCommand [0xFF, 0xAA, 0x00, 0x00, 0x00] = .ok (.cmdSave, []) := by decide
theorem test_decode_cmdReadReq : decodeCommand [0xFF, 0xAA, 0x27, 0x34, 0x00] = .ok (.cmdReadReq 0x34, []) := by decide
theorem test_decode_cmdWrite : decodeCommand [0xFF, 0xAA, 0x27, 0x34, 0x01] = .ok (.cmdWrite 0x27 0x0134, []) := by decide
/-- RS-1 to RS-5. -/
theorem test_decode_reserved :
    [0x00, 0x06, 0x0F, 0x13, 0x1F, 0x2C, 0xFF].map (fun op => decodeHost [op]) =
      [0x00, 0x06, 0x0F, 0x13, 0x1F, 0x2C, 0xFF].map (fun op => .error (.reservedOperation op)) := by decide
theorem test_decode_incomplete : decodeHost [0x21, 0x06, 0x00] = .error .incomplete := by decide
theorem test_encode_feed : encode (.feed [0x55, 0x51]) = [0x03, 0x02, 0x00, 0x55, 0x51] := by decide

/-! ## The words of spec/opcode_table.json -/

theorem test_tableWord_host : decodeTableWord 8 0x21 = some (.setRate 0) := by decide
theorem test_tableWord_frame : decodeTableWord 88 0x5551000000000000000000 = some (.frameAcc 0 0 0 0 0) := by decide
theorem test_tableWord_command : decodeTableWord 40 0xFFAA273400 = some (.cmdReadReq 0x34) := by decide
/-- A reserved operation is no instruction of the table. -/
theorem test_tableWord_reserved : decodeTableWord 8 0x2C = none := by decide
theorem test_withFetchWord_host : (stepped (State.reset.withFetchWord 8 0x21)).out = [.result codeState] := by decide
theorem test_withFetchWord_frame :
    (stepped (State.reset.withFetchWord 88 0x5551000000000000000000)).out = [.result codeState] := by decide
theorem test_withFetchWord_command :
    (stepped ({ State.reset with txAnswers := [.ok] }.withFetchWord 40 0xFFAA6988B5)).out = [.tx unlockBytes 0 .ok] := by
  decide

/-! ## Lifecycle and accessors (L2.8) -/

/-- LC-2. -/
theorem test_create_default :
    let t := after (.create 1 0) powerOn
    t.created = true ∧ t.enabled = false ∧ t.respTimeout = 100 ∧ t.out = [.result 0] := by decide
/-- LC-3. -/
theorem test_create_once :
    let t := after (.create 1 7) fresh
    t.respTimeout = 100 ∧ t.out = [.result 0xFFFFFFFE] := by decide
/-- LC-9: disabling keeps the buffer's bytes. -/
theorem test_disable :
    let t := after (.enable 0) (after (.frameAcc 2048 (-2048) 32767 0 0x24) (atTime 3 fresh))
    t.enabled = false ∧ t.valid = false ∧ t.acc = Axes.zero ∧ t.ts = 0 ∧ t.fstate = .idle ∧ t.cursor = 0 ∧
      t.fb.getD 1 0 = 0x51 ∧ t.wdLast = 3 := by decide
/-- LC-5. -/
theorem test_enable_uncreated : (after (.enable 1) powerOn).out = [.result 0xFFFFFFFE] := by decide
/-- LC-7. -/
theorem test_get_temperature :
    (after (.get 0x0C) { fresh with valid := true, temp := 0x42110000 }).out = [.value 0x42110000] := by decide
/-- WD-13's end: the gate is closed while `VALID` is 0. -/
theorem test_get_gate_closed : (after (.get 0x02) { fresh with gyro := ⟨0, 0, 0x447A0000⟩ }).out = [.value 0] := by decide
/-- LC-9. -/
theorem test_status_buffer : (after (.status 0x11) { fresh with fb := frameVector 0x51 0 0 0 0 0 }).out = [.value 0x51] := by
  decide
/-- LC-12. -/
theorem test_status_reserved : (after (.status 0x1B) fresh).out = [.value 0] := by decide

/-! ## The frame assembler (L2.2) -/

/-- FA-3: a stray header loses the frame after it, and the last byte is scanned again. -/
theorem test_feed_false_header :
    let t := after (.feed [0x55, 0x55, 0x52, 0, 0, 0, 0, 0, 0x40, 0, 0, 0xE7]) (atTime 7 fresh)
    t.fstate = .idle ∧ t.cursor = 0 ∧ t.valid = false ∧ t.wdLast = 0 ∧ t.out = [.result 0] := by decide
/-- FA-15. -/
theorem test_feed_empty : (after (.feed []) fresh).out = [.result 0xFFFFFFFF] := by decide

/-! ## The packet decoder (L2.5) -/

/-- PD-1. -/
theorem test_frameAcc :
    let t := after (.frameAcc 2048 (-2048) 32767 (-12325) 0xCE) (atTime 3 fresh)
    t.acc = ⟨0x3F800000, 0xBF800000, 0x417FFE00⟩ ∧ t.temp = 0 ∧ t.ts = 3 ∧ t.valid = true := by decide
/-- PD-2, where the two evaluation orders differ. -/
theorem test_temperature_orders : tempConv .f32Stepwise 721 = 0x42197B7C ∧ tempConv .f64ThenF32 721 = 0x42197B7B := by
  decide
/-- PD-4. -/
theorem test_frameGyro :
    let t := after (.frameGyro (-32768) 32767 1 0 0xA6) (atTime 3 fresh)
    t.gyro = ⟨0xC4FA0000, 0x44F9FE0C, 0x3D7A0000⟩ ∧ t.temp = 0 := by decide
/-- FA-2. -/
theorem test_frameGyro_corrupt :
    let t := after (.frameGyro 0 0 16384 0 0xE8) (atTime 7 fresh)
    t.fstate = .error ∧ t.cursor = 11 ∧ t.gyro = Axes.zero ∧ t.valid = false ∧ t.wdLast = 0 := by decide
/-- PD-5. -/
theorem test_frameAngle :
    let t := after (.frameAngle (-32768) 32767 16384 0xFFFF 0xE4) (atTime 3 fresh)
    t.angle = ⟨0xC3340000, 0x4333FE98, 0x42B40000⟩ ∧ t.version = 65535 := by decide
/-- PD-8. -/
theorem test_frameMag :
    let t := after (.frameMag (-32768) 32767 1 (-340) 0x52) (atTime 3 fresh)
    t.mag = ⟨0xC7000000, 0x46FFFE00, 0x3F800000⟩ ∧ t.temp = 0x420D0000 := by decide
/-- FA-11. -/
theorem test_frameOther :
    let t := after (.frameOther 0x50 1 2 3 4 0xAF) (atTime 40 fresh)
    t.fstate = .ready ∧ t.valid = false ∧ t.ts = 0 ∧ t.wdLast = 40 := by decide

/-! ## The watchdog (L2.7) -/

/-- WD-1. -/
theorem test_wdtInit_too_long :
    let t := after (.wdtInit 30001) (atTime 77 fresh)
    t.wdTimeout = 0 ∧ t.wdLast = 0 ∧ t.out = [.result 0xFFFFFFFF] := by decide
/-- WD-3. -/
theorem test_wdtInit_longest :
    let t := after (.wdtInit 30000) (atTime 77 fresh)
    t.wdTimeout = 30000 ∧ t.wdLast = 77 ∧ t.wdEnabled = false ∧ t.out = [.result 0] := by decide
/-- WD-14. -/
theorem test_wdtEnable_disarm :
    let t := after (.wdtEnable 0) (atTime 9 { fresh with wdEnabled := true, wdLast := 7 })
    t.wdEnabled = false ∧ t.wdLast = 7 := by decide
/-- WD-12's first operation. -/
theorem test_wdtEnable_arm :
    let t := after (.wdtEnable 1) (atTime 10 fresh)
    t.wdEnabled = true ∧ t.wdLast = 10 := by decide

/-- WD-7's block before its check: armed at `0xFFFFFF00` with a window of 1000 ms. -/
def armed : State := { fresh with wdEnabled := true, wdTimeout := 1000, wdLast := 0xFFFFFF00, valid := true }

/-- WD-7: across the wrap of `now`, the window is not exceeded. -/
theorem test_wdtCheck_within : (after .wdtCheck (atTime (2 ^ 32 + 0x2E8) armed)).out = [] := by decide
/-- WD-8. -/
theorem test_wdtCheck_past :
    let t := after .wdtCheck (atTime (2 ^ 32 + 0x2E9) armed)
    t.wdCount = 1 ∧ t.wdLast = 0x2E9 ∧ t.valid = false ∧ t.out = [.trAbort, .trReinit .ok, .trArm] := by decide

/-! ## The command encoder (L2.6) -/

/-- What an operation that goes pending writes and sends: the unlock frame out, and its write frame kept. -/
def pends (i : Instr) (reg dl : Byte) : Bool :=
  let t := after i (atTime 100 fresh)
  decide (t.out = [.tx unlockBytes 100 .ok] ∧ t.ceFrame = ⟨0xFF, 0xAA, reg, dl, 0⟩ ∧ t.cePhase = .waitUnlock ∧
    t.ceT0 = 100)

/-- What a rejected operation answers, with nothing sent and nothing pending. -/
def rejected (i : Instr) (s : State) (code : Word) : Bool :=
  decide (after i s = { s with out := [.result code] })

theorem test_setBaud : pends (.setBaud 7) 1 7 = true := by decide
theorem test_setBaud_range : rejected (.setBaud 8) fresh 0xFFFFFFFF = true := by decide
/-- CE-9. -/
theorem test_setRate : pends (.setRate 11) 2 11 = true := by decide
/-- CE-8. -/
theorem test_setRate_reserved : rejected (.setRate 10) fresh 0xFFFFFFFF = true := by decide
/-- CE-14. -/
theorem test_setContent : pends (.setContent 0xFF) 3 0xFF = true := by decide
/-- CE-15. -/
theorem test_setContent_range : rejected (.setContent 0x100) fresh 0xFFFFFFFF = true := by decide
/-- CE-16. -/
theorem test_setBandwidth : pends (.setBandwidth 0) 4 0 = true := by decide
/-- CE-19. -/
theorem test_setBandwidth_range : rejected (.setBandwidth 0xFFFFFFFF) fresh 0xFFFFFFFF = true := by decide
/-- CE-20. -/
theorem test_accCalStart : pends .accCalStart 5 1 = true := by decide
/-- CE-21. -/
theorem test_accCalStop : pends .accCalStop 5 0 = true := by decide
/-- CE-22. -/
theorem test_magCalStart : pends .magCalStart 5 7 = true := by decide
/-- CE-23. -/
theorem test_magCalStop : pends .magCalStop 5 0 = true := by decide
/-- CE-24. -/
theorem test_manualCalEnter : pends .manualCalEnter 6 1 = true := by decide
/-- CE-25. -/
theorem test_manualCalExit : pends .manualCalExit 6 4 = true := by decide
/-- CE-26. -/
theorem test_zeroYaw : pends .zeroYaw 7 0 = true := by decide
/-- CE-29. -/
theorem test_readReg :
    let t := after (.readReg 0xFF) fresh
    t.cePhase = .idle ∧ t.out = [.tx ⟨0xFF, 0xAA, 0x27, 0xFF, 0⟩ 100 .ok, .result 0] := by decide
/-- CE-33: busy comes before range. -/
theorem test_readReg_busy : rejected (.readReg 0x100) (pending .waitUnlock) 0xFFFFFFFE = true := by decide
theorem test_cmdUnlock : (after .cmdUnlock fresh).out = [.tx ⟨0xFF, 0xAA, 0x69, 0x88, 0xB5⟩ 100 .ok] := by decide
theorem test_cmdSave : (after .cmdSave fresh).out = [.tx ⟨0xFF, 0xAA, 0, 0, 0⟩ 100 .ok] := by decide
theorem test_cmdReadReq : (after (.cmdReadReq 0x34) fresh).out = [.tx ⟨0xFF, 0xAA, 0x27, 0x34, 0⟩ 100 .ok] := by decide
theorem test_cmdWrite : (after (.cmdWrite 3 0x0102) fresh).out = [.tx ⟨0xFF, 0xAA, 3, 2, 1⟩ 100 .ok] := by decide
/-- CE-37 at 149. -/
theorem test_sequencer_waits :
    let t := stepped { pending .waitUnlock with turns := [⟨49, .sequencer⟩] }
    t.cePhase = .waitUnlock ∧ t.out = [] := by decide
/-- CE-37 at 150. -/
theorem test_sequencer_sends :
    let t := stepped (pending .waitUnlock)
    t.cePhase = .waitWrite ∧ t.ceT0 = 150 ∧ t.out = [.tx ⟨0xFF, 0xAA, 2, 6, 0⟩ 100 .ok] := by decide

/-! ## States that meet the hypotheses of the statements, clause by clause at the ends of their ranges -/

/-- A block inside a frame, armed, with a sequence pending: every part of the invariant has something to say of it. -/
def busy : State :=
  { pending .waitWrite with
    fstate := .receiving, cursor := 10, fb := frameVector 0x52 0 0 16384 0 0, valid := true, ts := 7
    wdEnabled := true, wdTimeout := 30000, wdCount := 0xFFFFFFFF, hostIn := [0x12], rxIn := [0xE7]
    turns := [⟨0, .host⟩] }

theorem witness_invariant_busy : busy.Inv where
  frame := by decide
  uncreated := by decide
  disabled := by decide
  valid := by decide
  phase := by decide
  pendingFrame := fun _ => ⟨6, by decide, by decide, by decide, by decide⟩
  window := by decide
  timeout := by decide
  params := by decide

theorem witness_invariant_powerOn : powerOn.Inv where
  frame := by decide
  uncreated := by decide
  disabled := by decide
  valid := by decide
  phase := by decide
  pendingFrame := fun h => absurd rfl h
  window := by decide
  timeout := by decide
  params := by decide

/-- A sequence pending whose unlock frame is sent. -/
theorem witness_invariant_pending : (pending .waitUnlock).Inv where
  frame := by decide
  uncreated := by decide
  disabled := by decide
  valid := by decide
  phase := by decide
  pendingFrame := fun _ => ⟨6, by decide, by decide, by decide, by decide⟩
  window := by decide
  timeout := by decide
  params := by decide

/-- A step's next state, written out. -/
theorem step_stepped (s : State) : step s = .next (stepped s) := by
  obtain ⟨t, h⟩ : ∃ t, step s = .next t := by
    unfold step
    dsimp only
    split
    · exact ⟨_, rfl⟩
    · rename_i i before _
      obtain ⟨t, h⟩ := exec_next i before
      exact ⟨_, by rw [h]⟩
  rw [stepped, h]

/-- An instruction's next state, written out. -/
theorem exec_after (i : Instr) (s : State) : exec i s = .next (after i s) := by
  obtain ⟨t, h⟩ := exec_next i s
  rw [after, h]

theorem witness_DecodeOfEncodeIsTheInstruction :
    (Instr.feed []).wf = true ∧ (Instr.frameOther 0x50 0 0 0 0 0).wf = true ∧ (Instr.frameOther 0x55 0 0 0 0 0).wf = true ∧
      (Instr.cmdWrite 0x27 0x0100).wf = true ∧ (Instr.cmdWrite 0x00 0x0001).wf = true ∧
      (Instr.cmdWrite 0x69 0xB587).wf = true ∧ (Instr.create 0xFF 0xFFFFFFFF).wf = true := by decide

theorem witness_DecodedBytesAreTheEncoding : decode .cmd5 [0xFF, 0xAA, 0x27, 0xFF, 0x00, 0x12] = .ok (.cmdReadReq 0xFF, [0x12]) := by
  decide

theorem witness_ReservedOperationBytesAreRejectedByName :
    (∀ op ∈ ([0x00, 0x06, 0x0F, 0x13, 0x1F, 0x2C, 0xFF] : List Byte), reservedOperation op) ∧
      ∀ op ∈ ([0x01, 0x05, 0x10, 0x12, 0x20, 0x2B] : List Byte), ¬reservedOperation op := by decide

theorem witness_StepRunsTheHostOperation :
    let s := { fresh with hostIn := encode (.setRate 10) ++ [0x12], turns := [⟨3, .host⟩] }
    s.nextTurn.agent = .host ∧ s.hostIn = encode (.setRate 10) ++ [0x12] ∧ (Instr.setRate 10).wf = true ∧
      (Instr.setRate 10).format = .hostcmd := by decide

theorem witness_StepRunsTheReceivedFrame :
    let i := Instr.frameOther 0x55 0 0 0 0 0xAA
    let s := { fresh with rxIn := encode i ++ [0x55], turns := [⟨3, .receive⟩] }
    s.nextTurn.agent = .receive ∧ s.rxIn = encode i ++ [0x55] ∧ i.wf = true ∧ i.format = .frame11 := by decide

/-- A byte that is no header, a header without the whole frame behind it, and nothing. -/
theorem witness_ReceiveTurnFeedsOneByte :
    let s := fun rx => { fresh with rxIn := rx, turns := [⟨3, .receive⟩] }
    (s [0x54, 0x52]).nextTurn.agent = .receive ∧ (s [0x54, 0x52]).rxIn = 0x54 :: [0x52] ∧ (0x54 : Byte) ≠ 0x55 ∧
      (s [0x55, 0, 0, 0, 0, 0, 0, 0, 0, 0]).rxIn.length < 11 ∧ (s []).rxIn = [] := by decide

theorem witness_StepRunsTheSequencerFrame :
    let s := pending .waitUnlock
    let i := Instr.cmdWrite 2 6
    s.nextTurn.agent = .sequencer ∧ s.beginTurn.sequencerFrame = some ⟨0xFF, 0xAA, 2, 6, 0⟩ ∧
      CmdFrame.bytes ⟨0xFF, 0xAA, 2, 6, 0⟩ = encode i ∧ i.wf = true ∧ i.format = .cmd5 ∧
      exec i s.beginTurn = .next (after i s.beginTurn) :=
  ⟨by decide, by decide, by decide, by decide, by decide, exec_after _ _⟩

theorem witness_ReservedOperationReturnsParameterError :
    let s := { fresh with hostIn := [0x2C, 0x12], turns := [⟨0, .host⟩] }
    s.nextTurn.agent = .host ∧ s.hostIn = 0x2C :: [0x12] ∧ reservedOperation 0x2C := by decide

theorem witness_IncompleteOperationWaits :
    let s := { fresh with hostIn := [0x03, 0x02, 0x00, 0x55], turns := [⟨5, .host⟩] }
    s.nextTurn.agent = .host ∧ decodeHost s.hostIn = .error .incomplete := by decide

theorem witness_StepKeepsTheInvariant : busy.Inv ∧ step busy = .next (stepped busy) :=
  ⟨witness_invariant_busy, step_stepped _⟩

theorem witness_RecoveryCounterNeverDecreases : busy.Inv ∧ step busy = .next (stepped busy) :=
  ⟨witness_invariant_busy, step_stepped _⟩

theorem witness_HistoryOnlyGrows : step busy = .next (stepped busy) ∧ busy.created = true := ⟨step_stepped _, by decide⟩

theorem witness_EgressIsClosed :
    let s := pending .waitUnlock
    let o := Output.tx ⟨0xFF, 0xAA, 2, 6, 0⟩ 100 .ok
    step s = .next (stepped s) ∧ (stepped s).out = s.out ++ [o] ∧ o ∈ [o] ∧ s.Inv :=
  ⟨step_stepped _, by decide, by decide, witness_invariant_pending⟩

theorem witness_NoInstructionDisturbsAPendingSequence :
    busy.created = true ∧ busy.cePhase ≠ .idle ∧ exec (.enable 0) busy = .next (after (.enable 0) busy) :=
  ⟨by decide, by decide, exec_after _ _⟩

theorem witness_ControlRegistersHaveOneWriter :
    powerOn.Inv ∧ busy.Inv ∧ exec (.create 1 1) powerOn = .next (after (.create 1 1) powerOn) ∧
      (after (.create 1 1) powerOn).created ≠ powerOn.created ∧ (after (.create 1 1) powerOn).respTimeout ≠ powerOn.respTimeout ∧
      (after (.enable 0) busy).enabled ≠ busy.enabled ∧ (after (.wdtInit 500) busy).wdTimeout ≠ busy.wdTimeout ∧
      (after (.wdtEnable 0) busy).wdEnabled ≠ busy.wdEnabled ∧
      (after .wdtCheck (atTime 30001 { busy with wdCount := 0 })).wdCount ≠ 0 :=
  ⟨witness_invariant_powerOn, witness_invariant_busy, exec_after _ _, by decide, by decide, by decide, by decide, by decide,
    by decide⟩

theorem witness_MeasurementsComeFromReceivedBytes :
    busy.Inv ∧ ¬isIngestion .wdtCheck ∧ (∀ flag, Instr.wdtCheck ≠ .enable flag) ∧
      exec .wdtCheck (atTime 30001 busy) = .next (after .wdtCheck (atTime 30001 busy)) ∧
      ¬isIngestion (.create 1 0) ∧ Instr.create 1 0 ≠ .wdtCheck :=
  ⟨witness_invariant_busy, by simp [isIngestion], by simp, exec_after _ _, by simp [isIngestion], by simp⟩

theorem witness_RejectionChangesNothing :
    exec (.setRate 14) fresh = .next (after (.setRate 14) fresh) ∧
      (after (.setRate 14) fresh).out = fresh.out ++ [.result 0xFFFFFFFF] ∧
      Output.result 0xFFFFFFFF ∈ [Output.result 0xFFFFFFFF] ∧
      exec (.setRate 14) busy = .next (after (.setRate 14) busy) ∧
      (after (.setRate 14) busy).out = busy.out ++ [.result 0xFFFFFFFE] :=
  ⟨exec_after _ _, by decide, by decide, exec_after _ _, by decide⟩

theorem witness_FeedFollowsItsRule :
    powerOn.created = false ∧ (after (.enable 0) fresh).enabled = false ∧ fresh.created = true ∧ fresh.enabled = true ∧
      ([] : List Byte) = [] ∧ ([0x55] : List Byte) ≠ [] := by decide

theorem witness_FeedWritesNothingElse : exec (.feed [0x55]) fresh = .next (after (.feed [0x55]) fresh) := exec_after _ _

theorem witness_IdleScansForTheHeader : fresh.fstate = .idle ∧ (0x55 : Byte) = 0x55 ∧ (0x54 : Byte) ≠ 0x55 := by decide

theorem witness_ReceivingAppendsEveryByte :
    [1, 9].all (fun c =>
      let s := { busy with cursor := c }
      decide (s.fstate = .receiving ∧ 1 ≤ s.cursor.toNat ∧ s.cursor.toNat ≤ 9)) = true := by decide

/-- The bytes of a frame of a tag, but for its checksum. -/
def almostFull (tag : Byte) : State := { busy with fb := frameVector tag 0 0 0 0 0 }

theorem witness_EleventhByteIsTheChecksum :
    busy.fstate = .receiving ∧ busy.cursor = 10 ∧ checksum (busy.fb.setIfInBounds 10 0xE7) = 0xE7 ∧
      busy.fb.getD 1 0 = 0x52 ∧ checksum (busy.fb.setIfInBounds 10 0xE8) ≠ 0xE8 ∧
      checksum ((almostFull 0x51).fb.setIfInBounds 10 0xA6) = 0xA6 ∧ (almostFull 0x51).fb.getD 1 0 = 0x51 ∧
      checksum ((almostFull 0x53).fb.setIfInBounds 10 0xA8) = 0xA8 ∧ (almostFull 0x53).fb.getD 1 0 = 0x53 ∧
      checksum ((almostFull 0x54).fb.setIfInBounds 10 0xA9) = 0xA9 ∧ (almostFull 0x54).fb.getD 1 0 = 0x54 ∧
      checksum ((almostFull 0x50).fb.setIfInBounds 10 0xA5) = 0xA5 ∧ ((almostFull 0x50).fb.getD 1 0).toNat < 0x51 ∧
      checksum ((almostFull 0x55).fb.setIfInBounds 10 0xAA) = 0xAA ∧ 0x54 < ((almostFull 0x55).fb.getD 1 0).toNat := by
  decide

theorem witness_TerminalStatesReplayTheByte :
    { busy with fstate := .ready }.fstate = .ready ∧ { busy with fstate := .error }.fstate = .error := by decide

theorem witness_OverflowScansTheByte :
    busy.fstate = .receiving ∧ { busy with cursor := 0 }.cursor.toNat = 0 ∧ 10 < { busy with cursor := 11 }.cursor.toNat := by
  decide

theorem witness_FramingIsChunkSizeIndependent :
    let chunks : List (List Byte) := [[0x55], [0x52, 0x00]]
    ∀ c ∈ chunks, c ≠ [] := by decide

theorem witness_frames_from_every_state_outside_a_frame :
    fresh.created = true ∧ fresh.enabled = true ∧ fresh.fstate ≠ .receiving ∧
      { fresh with fstate := .ready }.fstate ≠ .receiving ∧ { fresh with fstate := .error }.fstate ≠ .receiving := by decide

theorem witness_OtherFrameOnlyFeedsTheWatchdog :
    fresh.created = true ∧ fresh.enabled = true ∧ fresh.fstate ≠ .receiving ∧ (0x50 : Byte).toNat < 0x51 ∧
      0x54 < (0x55 : Byte).toNat := by decide

theorem witness_CorruptFrameIsDiscarded :
    fresh.created = true ∧ fresh.enabled = true ∧ fresh.fstate ≠ .receiving ∧
      (0xE8 : Byte) ≠ frameSum 0x52 0 0 16384 0 ∧ (0xE7 : Byte) = frameSum 0x52 0 0 16384 0 := by decide

theorem witness_FrameRunsAsTheFeedOfItsBytes : (Instr.frameAcc 0 0 0 0 0xA6).format = .frame11 := by decide

theorem witness_WdtInitFollowsItsRule :
    powerOn.created = false ∧ fresh.created = true ∧ (499 : Word).toNat < 500 ∧ 500 ≤ (500 : Word).toNat ∧
      (30000 : Word).toNat ≤ 30000 ∧ 30000 < (30001 : Word).toNat := by decide

theorem witness_WdtEnableFollowsItsRule :
    powerOn.created = false ∧ fresh.created = true ∧ (0xFF : Byte) ≠ 0 ∧ (0 : Byte) = 0 := by decide

theorem witness_WdtCheckWithinTheWindowDoesNothing :
    powerOn.created = false ∧ (after (.enable 0) armed).enabled = false ∧ fresh.wdEnabled = false ∧
      let s := atTime (2 ^ 32 + 0x2E8) armed
      (s.now - s.wdLast).toNat ≤ s.wdTimeout.toNat := by decide

theorem witness_WdtCheckPastTheWindowRecovers :
    let s := atTime (2 ^ 32 + 0x2E9) armed
    s.created = true ∧ s.enabled = true ∧ s.wdEnabled = true ∧ s.wdTimeout.toNat < (s.now - s.wdLast).toNat := by decide

theorem witness_RecoveriesAreMoreThanAWindowApart :
    let s := atTime (2 ^ 32 + 0x2E9) armed
    (s.created = true ∧ s.enabled = true ∧ s.wdEnabled = true ∧ s.wdTimeout.toNat < (s.now - s.wdLast).toNat) ∧
      exec .wdtCheck s = .next (after .wdtCheck s) ∧ 1000 ≤ s.wdTimeout.toNat ∧ s.wdTimeout.toNat < 1001 ∧ 1001 < 2 ^ 32 :=
  ⟨by decide, exec_after _ _, by decide, by decide, by decide⟩

theorem witness_CreateFollowsItsRule :
    fresh.created = true ∧ powerOn.created = false ∧ (0 : Byte) = 0 ∧ (0xFF : Byte) ≠ 0 := by decide

theorem witness_EnableFollowsItsRule :
    powerOn.created = false ∧ fresh.created = true ∧ (0x80 : Byte) ≠ 0 ∧ (0 : Byte) = 0 := by decide

theorem witness_GetFollowsItsRule :
    powerOn.created = false ∧ (after (.enable 0) fresh).enabled = false ∧ fresh.valid = false ∧ 0x10 ≤ (0x10 : Byte).toNat ∧
      busy.created = true ∧ busy.enabled = true ∧ busy.valid = true ∧ (0x0F : Byte).toNat < 0x10 := by decide

theorem witness_StatusFollowsItsRule :
    reservedStatusSelector 0x0B ∧ reservedStatusSelector 0x0F ∧ reservedStatusSelector 0x1B ∧ reservedStatusSelector 0xFF ∧
      (0x0A : Byte).toNat ≤ 0x0A ∧ 0x10 ≤ (0x10 : Byte).toNat ∧ (0x1A : Byte).toNat ≤ 0x1A := by decide

theorem witness_GetValidEqualsStatusValid : busy.Inv ∧ busy.valid = true := ⟨witness_invariant_busy, by decide⟩

/-- The four cases of a configuration operation's issue step, and of READ_REG's. -/
theorem witness_issue_steps :
    powerOn.created = false ∧ (after (.enable 0) fresh).enabled = false ∧ busy.cePhase ≠ .idle ∧
      (fresh.created = true ∧ fresh.enabled = true ∧ fresh.cePhase = .idle ∧ fresh.nextTxAnswer = .ok) ∧
      { fresh with txAnswers := [.fail 0] }.nextTxAnswer = .fail 0 ∧
      { fresh with txAnswers := [.fail 5] }.nextTxAnswer = .fail 5 := by decide

/-- The ends of each operand's range, and the values next to them. -/
theorem witness_operand_ranges :
    (¬(1 ≤ (0 : Word).toNat) ∧ (7 : Word).toNat ≤ 7 ∧ ¬((8 : Word).toNat ≤ 7)) ∧
      ((9 : Word).toNat ≠ 10 ∧ ¬((10 : Word).toNat ≠ 10) ∧ (13 : Word).toNat ≤ 13 ∧ ¬((14 : Word).toNat ≤ 13)) ∧
      ((255 : Word).toNat ≤ 0xFF ∧ 0xFF < (256 : Word).toNat) ∧ ((6 : Word).toNat ≤ 6 ∧ ¬((7 : Word).toNat ≤ 6)) := by
  decide

theorem witness_SequencerSendsTheWriteFrame :
    let s := pending .waitUnlock
    let f := { s with txAnswers := [.fail 2] }
    (s.nextTurn.agent = .sequencer ∧ s.beginTurn.cePhase = .waitUnlock ∧
        s.beginTurn.params.settleUnlock ≤ (s.beginTurn.now - s.beginTurn.ceT0).toNat ∧ s.beginTurn.nextTxAnswer = .ok) ∧
      f.nextTurn.agent = .sequencer ∧ f.beginTurn.cePhase = .waitUnlock ∧
      f.beginTurn.params.settleUnlock ≤ (f.beginTurn.now - f.beginTurn.ceT0).toNat ∧ f.beginTurn.nextTxAnswer = .fail 2 := by
  decide

theorem witness_SequencerSendsTheSaveFrame :
    let s := pending .waitWrite
    let f := { s with txAnswers := [.fail 5] }
    (s.nextTurn.agent = .sequencer ∧ s.beginTurn.cePhase = .waitWrite ∧
        s.beginTurn.params.settleWrite ≤ (s.beginTurn.now - s.beginTurn.ceT0).toNat ∧ s.beginTurn.nextTxAnswer = .ok) ∧
      f.nextTurn.agent = .sequencer ∧ f.beginTurn.cePhase = .waitWrite ∧
      f.beginTurn.params.settleWrite ≤ (f.beginTurn.now - f.beginTurn.ceT0).toNat ∧ f.beginTurn.nextTxAnswer = .fail 5 := by
  decide

theorem witness_SequencerCompletesAndNeverRunsEarly :
    let done := pending .waitSave
    let early := fun phase => { pending phase with turns := [⟨49, .sequencer⟩] }
    (done.nextTurn.agent = .sequencer ∧ done.beginTurn.cePhase = .waitSave ∧
        done.beginTurn.params.settleSave ≤ (done.beginTurn.now - done.beginTurn.ceT0).toNat) ∧
      (early .idle).nextTurn.agent = .sequencer ∧ (early .idle).beginTurn.cePhase = .idle ∧
      ((early .waitUnlock).beginTurn.now - (early .waitUnlock).beginTurn.ceT0).toNat <
        (early .waitUnlock).beginTurn.params.settleUnlock ∧
      ((early .waitWrite).beginTurn.now - (early .waitWrite).beginTurn.ceT0).toNat <
        (early .waitWrite).beginTurn.params.settleWrite ∧
      ((early .waitSave).beginTurn.now - (early .waitSave).beginTurn.ceT0).toNat <
        (early .waitSave).beginTurn.params.settleSave := by decide

theorem witness_PendingSequenceCompletes :
    let s := pending .waitUnlock
    s.cePhase = .waitUnlock ∧ s.turns = [⟨50, .sequencer⟩, ⟨50, .sequencer⟩, ⟨50, .sequencer⟩] ∧
      s.txAnswers = [.ok, .ok] ∧ s.params.settleUnlock ≤ (s.now + BitVec.ofNat 32 50 - s.ceT0).toNat ∧
      s.params.settleWrite ≤ 50 ∧ s.params.settleSave ≤ 50 := by decide

theorem witness_PatienceBoundsPassedOverSequencerSteps :
    let s := { pending .waitUnlock with turns := [], skips := Config.patience 0 }
    let other := { pending .waitUnlock with turns := [⟨50, .host⟩] }
    let early := { pending .waitUnlock with turns := [⟨49, .sequencer⟩] }
    (s.cePhase ≠ .idle ∧ s.turns = [] ∧ Config.patience s.txCount ≤ s.skips ∧ s.params.wf) ∧
      (other.cePhase ≠ .idle ∧ other.nextTurn.agent ≠ .sequencer ∧ step other = .next (stepped other)) ∧
      early.cePhase ≠ .idle ∧ early.beginTurn.sequencerEnabled = false ∧ step early = .next (stepped early) :=
  ⟨⟨by decide, rfl, Nat.le_refl _, by decide⟩, ⟨by decide, by decide, step_stepped _⟩, by decide, by decide, step_stepped _⟩

theorem witness_EveryIssuedSequenceEnds : (pending .waitUnlock).Inv ∧ (pending .waitUnlock).cePhase ≠ .idle :=
  ⟨witness_invariant_pending, by decide⟩

end Sys2Proof.Tests
end

/-! ## The family of 00_scope.md: the receive context's turn (R6; log 9) -/

section
namespace Sys2Proof.Machine

/-! ### FRAME11: decoding the bytes of a frame, and when no frame stands there -/

/-- Eleven bytes that begin with the header decode to the row of their tag (30_encoding.md R91, R93). -/
@[simp] theorem decodeFrame_frameBytes (tag : Byte) (f0 f1 f2 f3 : Half) (sum : Byte) (rest : List Byte) :
    decodeFrame (frameBytes tag f0 f1 f2 f3 sum ++ rest) = .ok (classifyFrame tag f0 f1 f2 f3 sum, rest) := by
  simp [decodeFrame, frameBytes]

theorem classifyFrame_of_otherTagOk {tag : Byte} (h : otherTagOk tag) (f0 f1 f2 f3 : Half) (sum : Byte) :
    classifyFrame tag f0 f1 f2 f3 sum = .frameOther tag f0 f1 f2 f3 sum := by
  obtain ⟨hacc, hgyro, hangle, hmag⟩ := h
  simp only [classifyFrame, tagAcc, tagGyro, tagAngle, tagMag, hacc, hgyro, hangle, hmag, if_false]

/-- The FRAME11 part of decoding after encoding: `wf` keeps the four decoded tags out of FRAME_OTHER. -/
theorem decodeFrame_encode {i : Instr} (hwf : i.wf = true) (hformat : i.format = .frame11) (rest : List Byte) :
    decodeFrame (encode i ++ rest) = .ok (i, rest) := by
  cases i with
  | frameAcc f0 f1 f2 f3 sum => exact decodeFrame_frameBytes tagAcc f0 f1 f2 f3 sum rest
  | frameGyro f0 f1 f2 f3 sum => exact decodeFrame_frameBytes tagGyro f0 f1 f2 f3 sum rest
  | frameAngle f0 f1 f2 f3 sum => exact decodeFrame_frameBytes tagAngle f0 f1 f2 f3 sum rest
  | frameMag f0 f1 f2 f3 sum => exact decodeFrame_frameBytes tagMag f0 f1 f2 f3 sum rest
  | frameOther tag f0 f1 f2 f3 sum =>
    have htag : otherTagOk tag := of_decide_eq_true hwf
    rw [encode, decodeFrame_frameBytes, classifyFrame_of_otherTagOk htag]
  | _ => cases hformat

theorem decodeFrame_of_ne_header {b : Byte} (h : b ≠ frameHeader) (rest : List Byte) :
    decodeFrame (b :: rest) = .error (.notAFrame b) := by
  simp [decodeFrame, h]

/-- A header with fewer than ten bytes behind it is a frame that has not arrived whole (30_encoding.md R112). -/
theorem decodeFrame_header_of_short {rest : List Byte} (h : rest.length < 10) :
    decodeFrame (frameHeader :: rest) = .error .incomplete := by
  simp only [decodeFrame, if_true]
  split
  · simp only [List.length_cons] at h; omega
  · rfl

/-- Without the header, or with fewer than eleven bytes, no frame stands at the head. -/
theorem decodeFrame_error {b : Byte} {rest : List Byte} (h : b ≠ frameHeader ∨ (b :: rest).length < 11) :
    ∃ e, decodeFrame (b :: rest) = .error e := by
  by_cases hb : b = frameHeader
  · subst hb
    have hshort : rest.length < 10 := Nat.lt_of_succ_lt_succ (h.resolve_left (not_not_intro rfl))
    exact ⟨_, decodeFrame_header_of_short hshort⟩
  · exact ⟨_, decodeFrame_of_ne_header hb rest⟩

/-! ### What the receive context fetches -/

theorem State.fetchReceived_of_frame {s : State} {i : Instr} {rest : List Byte} (h : decodeFrame s.rxIn = .ok (i, rest)) :
    s.fetchReceived = .run i { s with rxIn := rest } := by
  simp [State.fetchReceived, h]

theorem State.fetchReceived_of_byte {s : State} {b : Byte} {rest : List Byte} (hrx : s.rxIn = b :: rest)
    (h : b ≠ frameHeader ∨ s.rxIn.length < 11) : s.fetchReceived = .run (.feed [b]) { s with rxIn := rest } := by
  rw [hrx] at h
  obtain ⟨e, he⟩ := decodeFrame_error h
  simp [State.fetchReceived, hrx, he]

theorem State.fetchReceived_of_empty {s : State} (hrx : s.rxIn = []) : s.fetchReceived = .settled s := by
  simp [State.fetchReceived, hrx, decodeFrame]

/-! ### A step, by what its turn fetches -/

theorem step_of_fetch_settled {s t : State} (h : s.beginTurn.fetch s.nextTurn.agent = .settled t) : step s = .next t := by
  simp [step, h]

/-- Only the sequencer has anything left to do after its instruction (42_command_encoder.md R190). -/
theorem State.retire_of_ne_sequencer {agent : Agent} (h : agent ≠ .sequencer) (s before : State) :
    s.retire agent before = s := by
  cases agent with
  | host => rfl
  | receive => rfl
  | sequencer => exact absurd rfl h

theorem step_of_fetch_run {s before : State} {i : Instr} (hagent : s.nextTurn.agent ≠ .sequencer)
    (h : s.beginTurn.fetch s.nextTurn.agent = .run i before) : step s = exec i before := by
  obtain ⟨t, ht⟩ := exec_next i before
  simp [step, h, ht, State.retire_of_ne_sequencer hagent]

theorem step_of_fetchReceived_run {s before : State} {i : Instr} (hagent : s.nextTurn.agent = .receive)
    (h : s.beginTurn.fetchReceived = .run i before) : step s = exec i before :=
  step_of_fetch_run (by simp [hagent]) (by rw [hagent]; exact h)

theorem step_of_fetchReceived_settled {s t : State} (hagent : s.nextTurn.agent = .receive)
    (h : s.beginTurn.fetchReceived = .settled t) : step s = .next t :=
  step_of_fetch_settled (by rw [hagent]; exact h)

/-! ### The obligations -/

/-- Settles O6: ENV's turn leaves RX as it is, and the frame at its head decodes to the instruction it encodes. -/
theorem stepRunsTheReceivedFrame : Obligations.StepRunsTheReceivedFrame := by
  intro s i rest hagent hrx hwf hformat
  have hdecode : decodeFrame s.beginTurn.rxIn = .ok (i, rest) := by
    rw [State.beginTurn_rxIn, hrx, decodeFrame_encode hwf hformat]
  exact step_of_fetchReceived_run hagent (State.fetchReceived_of_frame hdecode)

/-- Settles O7: where no frame decodes at the head of RX its first byte is fetched alone, and an empty RX settles the turn. -/
theorem receiveTurnFeedsOneByte : Obligations.ReceiveTurnFeedsOneByte := by
  intro s hagent
  refine ⟨fun b rest hrx hnoFrame => ?_, fun hrx => ?_⟩
  · exact step_of_fetchReceived_run hagent (State.fetchReceived_of_byte hrx hnoFrame)
  · exact step_of_fetchReceived_settled hagent (State.fetchReceived_of_empty hrx)

end Sys2Proof.Machine
end

/-! ## The family of 10_state.md: what a step may write, and the invariants that follow (R22 to R47) -/

section
namespace Sys2Proof.Machine

/-! ### What writes no register -/

/-- From `s` to `t` no register of R21 is written: time may pass, outputs may be appended, ports and ENV's own bookkeeping may
move on. -/
structure LeavesRegisters (s t : State) : Prop where
  registers : SameRegisters s t
  params : t.params = s.params
  time : s.tAbs ≤ t.tAbs
  out : s.out <+: t.out

/-- By reflexivity of each field, also where `t` is `s` with fields outside R21 changed. -/
theorem SameRegisters.refl (s : State) : SameRegisters s s := by
  simp [SameRegisters, SameLifecycle, SameSnapshot, SameFrameState, SameWatchdog, SameSequencer]

theorem SameRegisters.trans {s t u : State} (h : SameRegisters s t) (k : SameRegisters t u) : SameRegisters s u := by
  simp_all [SameRegisters, SameLifecycle, SameSnapshot, SameFrameState, SameWatchdog, SameSequencer]

namespace LeavesRegisters

theorem refl (s : State) : LeavesRegisters s s :=
  ⟨.refl s, rfl, le_rfl, List.prefix_refl _⟩

theorem trans {s t u : State} (h : LeavesRegisters s t) (k : LeavesRegisters t u) : LeavesRegisters s u :=
  ⟨h.registers.trans k.registers, k.params.trans h.params, h.time.trans k.time, h.out.trans k.out⟩

theorem emit (s : State) (o : Output) : LeavesRegisters s (s.emit o) :=
  ⟨.refl s, rfl, le_rfl, List.prefix_append _ _⟩

theorem answered (s : State) (code : Word) : LeavesRegisters s (s.answered code) := emit s (.result code)

theorem sent (s : State) (c : CmdFrame) (more : List Output) : LeavesRegisters s (s.sent c more) :=
  ⟨.refl s, rfl, le_rfl, List.prefix_append _ _⟩

theorem setHostIn (s : State) (bytes : List Byte) : LeavesRegisters s { s with hostIn := bytes } :=
  ⟨.refl s, rfl, le_rfl, List.prefix_refl _⟩

theorem setRxIn (s : State) (bytes : List Byte) : LeavesRegisters s { s with rxIn := bytes } :=
  ⟨.refl s, rfl, le_rfl, List.prefix_refl _⟩

theorem beginTurn (s : State) : LeavesRegisters s s.beginTurn :=
  ⟨.refl s, rfl, Nat.le_add_right _ _, List.prefix_refl _⟩

end LeavesRegisters

/-! ### The write frames of R99 -/

/-- A data value below 256 goes into DL, and DH is zero (30_encoding.md R63, R95). -/
theorem writeFrame_setWidth {code : Word} (h : code.toNat < 256) (reg : Byte) :
    writeFrame reg (code.setWidth 16) = ⟨0xFF, 0xAA, reg, code.setWidth 8, 0x00⟩ := by
  have hdata : code.setWidth 16 = (code.setWidth 8).setWidth 16 := by bv_omega
  simp [writeFrame, cmdHeader0, cmdHeader1, hdata]

theorem toNat_setWidth_byte {code : Word} (h : code.toNat < 256) : (code.setWidth 8).toNat = code.toNat := by
  bv_omega

section
variable (p : Params) (code : Word)

theorem configWrite_setBaud (h : baudOk code = true) :
    ConfigWrite p .setBaud (writeFrame p.regBaud (code.setWidth 16)) := by
  obtain ⟨hlow, hhigh⟩ : 1 ≤ code.toNat ∧ code.toNat ≤ 7 := of_decide_eq_true h
  have hbyte : code.toNat < 256 := by omega
  refine ⟨code.setWidth 8, ?_, ?_, writeFrame_setWidth hbyte _⟩ <;> rw [toNat_setWidth_byte hbyte] <;> assumption

theorem configWrite_setRate (h : rateOk code = true) :
    ConfigWrite p .setRate (writeFrame p.regRate (code.setWidth 16)) := by
  obtain ⟨hlow, hhigh, hten⟩ : 1 ≤ code.toNat ∧ code.toNat ≤ 13 ∧ code.toNat ≠ 10 := of_decide_eq_true h
  have hbyte : code.toNat < 256 := by omega
  refine ⟨code.setWidth 8, ?_, ?_, ?_, writeFrame_setWidth hbyte _⟩ <;> rw [toNat_setWidth_byte hbyte] <;> assumption

theorem configWrite_setContent (h : contentOk code = true) :
    ConfigWrite p .setContent (writeFrame p.regContent (code.setWidth 16)) := by
  obtain ⟨hlow, hhigh⟩ : 1 ≤ code.toNat ∧ code.toNat ≤ 0xFF := of_decide_eq_true h
  have hbyte : code.toNat < 256 := by omega
  exact ⟨code.setWidth 8, by rwa [toNat_setWidth_byte hbyte], writeFrame_setWidth hbyte _⟩

theorem configWrite_setBandwidth (h : bandwidthOk code = true) :
    ConfigWrite p .setBandwidth (writeFrame p.regBandwidth (code.setWidth 16)) := by
  have hhigh : code.toNat ≤ 6 := of_decide_eq_true h
  have hbyte : code.toNat < 256 := by omega
  exact ⟨code.setWidth 8, by rwa [toNat_setWidth_byte hbyte], writeFrame_setWidth hbyte _⟩

end

/-! ### What an instruction may write -/

/-- What instruction `i` may write to the registers of `s`: each constructor is one rule's writes with its precondition. -/
inductive InstrWrite (s : State) : Instr → State → Prop where
  /-- Nothing: a rejection, an accessor, a transmit request, or a watchdog within its window. -/
  | none (i : Instr) : InstrWrite s i s
  /-- 44_lifecycle_accessors.md R260. -/
  | create (tp : Byte) (timeout : Word) : s.created = false → InstrWrite s (.create tp timeout) (s.initialise timeout)
  /-- 44_lifecycle_accessors.md R261, a nonzero flag. -/
  | enable (flag : Byte) : s.created = true → InstrWrite s (.enable flag) { s with enabled := true }
  /-- 44_lifecycle_accessors.md R261, flag zero. -/
  | disable (flag : Byte) :
    s.created = true → InstrWrite s (.enable flag) { s with enabled := false }.clearSnapshot.resetFrame
  /-- 40_frame_assembler.md R130. -/
  | ingest {i : Instr} (data : List Byte) : isIngestion i → s.live = true → InstrWrite s i (s.feedBytes data)
  /-- 43_watchdog.md R230. -/
  | setWindow (timeout : Word) :
    s.created = true → windowOk timeout = true →
      InstrWrite s (.wdtInit timeout) { s with wdTimeout := timeout, wdLast := s.now }
  /-- 43_watchdog.md R231, a nonzero flag. -/
  | arm (flag : Byte) :
    s.created = true → InstrWrite s (.wdtEnable flag) { s with wdEnabled := true, wdLast := s.now }
  /-- 43_watchdog.md R231, flag zero. -/
  | disarm (flag : Byte) : s.created = true → InstrWrite s (.wdtEnable flag) { s with wdEnabled := false }
  /-- 43_watchdog.md R234. -/
  | recover :
    s.windowExceeded = true →
      InstrWrite s .wdtCheck
        { s with fstate := .idle, cursor := 0, valid := false, wdLast := s.now, wdCount := bumpCount s.wdCount }
  /-- 42_command_encoder.md R190, with the frame of 30_encoding.md R99. -/
  | issue {i : Instr} (op : ConfigOp) (c : CmdFrame) :
    s.live = true → s.cePhase = .idle → ConfigWrite s.params op c → InstrWrite s i (s.startSequence op c)

/-- An instruction's register writes, followed by its outputs. -/
def HasInstrWrite (i : Instr) (s t : State) : Prop := ∃ u, InstrWrite s i u ∧ LeavesRegisters u t

theorem HasInstrWrite.of_leaves {s t : State} (h : LeavesRegisters s t) (i : Instr) : HasInstrWrite i s t :=
  ⟨s, .none i, h⟩

theorem HasInstrWrite.answered (i : Instr) (s : State) (code : Word) : HasInstrWrite i s (s.answered code) :=
  .of_leaves (.answered s code) i

theorem HasInstrWrite.of_write {i : Instr} {s u : State} (h : InstrWrite s i u) (code : Word) :
    HasInstrWrite i s (u.answered code) :=
  ⟨u, h, .answered u code⟩

theorem execCreate_writes (tp : Byte) (timeout : Word) {s t : State} (h : execCreate tp timeout s = .next t) :
    HasInstrWrite (.create tp timeout) s t := by
  injection h with h
  subst h
  split
  · exact .answered _ s _
  · next hc =>
    split
    · exact .answered _ s _
    · exact .of_write (.create tp timeout (Bool.eq_false_iff.2 hc)) _

theorem execEnable_writes (flag : Byte) {s t : State} (h : execEnable flag s = .next t) :
    HasInstrWrite (.enable flag) s t := by
  injection h with h
  subst h
  split
  · exact .answered _ s _
  · next hc =>
    have hcreated : s.created = true := by simpa using hc
    split
    · exact .of_write (.enable flag hcreated) _
    · exact .of_write (.disable flag hcreated) _

theorem execWdtInit_writes (timeout : Word) {s t : State} (h : execWdtInit timeout s = .next t) :
    HasInstrWrite (.wdtInit timeout) s t := by
  injection h with h
  subst h
  split
  · exact .answered _ s _
  · next hc =>
    split
    · exact .answered _ s _
    · next hw => exact .of_write (.setWindow timeout (by simpa using hc) (by simpa using hw)) _

theorem execWdtEnable_writes (flag : Byte) {s t : State} (h : execWdtEnable flag s = .next t) :
    HasInstrWrite (.wdtEnable flag) s t := by
  injection h with h
  subst h
  split
  · exact .answered _ s _
  · next hc =>
    have hcreated : s.created = true := by simpa using hc
    split
    · exact .of_write (.arm flag hcreated) _
    · exact .of_write (.disarm flag hcreated) _

theorem execWdtCheck_writes {s t : State} (h : execWdtCheck s = .next t) : HasInstrWrite .wdtCheck s t := by
  injection h with h
  subst h
  split
  · next hw =>
    rw [State.recover_eq]
    exact ⟨_, .recover hw, ⟨.refl _, rfl, le_rfl, List.prefix_append _ _⟩⟩
  · exact .of_leaves (.refl s) _

theorem State.feed_writes {i : Instr} (hi : isIngestion i) (s : State) (data : List Byte) :
    HasInstrWrite i s (s.feed data) := by
  rcases s.feed_cases data with ⟨-, h⟩ | ⟨-, -, h⟩ | ⟨hlive, -, h⟩ <;> rw [h]
  · exact .answered _ s _
  · exact .answered _ s _
  · exact .of_write (.ingest data hi hlive) _

theorem State.configure_writes (i : Instr) (s : State) {op : ConfigOp} {reg : Byte} {data : Half} {ok : Bool}
    (hframe : ok = true → ConfigWrite s.params op (writeFrame reg data)) :
    HasInstrWrite i s (s.configure op reg data ok) := by
  rcases s.configure_cases op reg data ok with ⟨-, h⟩ | ⟨-, -, -, h⟩ | ⟨-, -, -, -, h⟩ | ⟨hlive, hidle, hok, -, h⟩ <;>
    rw [h]
  · exact .answered _ s _
  · exact .answered _ s _
  · exact .of_leaves (.sent s _ _) _
  · exact ⟨_, .issue op _ hlive hidle (hframe hok),
      ⟨.refl _, rfl, le_rfl, List.prefix_append _ _⟩⟩

theorem State.requestRead_leaves (s : State) (addr : Word) : LeavesRegisters s (s.requestRead addr) := by
  rcases s.requestRead_cases addr with ⟨-, h⟩ | ⟨-, -, -, h⟩ | ⟨-, -, -, h⟩ <;> rw [h]
  · exact .answered s _
  · exact .answered s _
  · exact .sent s _ _

/-- Every instruction's effect is one rule's register writes and then outputs. -/
theorem exec_writes {i : Instr} {s t : State} (h : exec i s = .next t) : HasInstrWrite i s t := by
  cases i with
  | create tp timeout => exact execCreate_writes tp timeout h
  | enable flag => exact execEnable_writes flag h
  | wdtInit timeout => exact execWdtInit_writes timeout h
  | wdtEnable flag => exact execWdtEnable_writes flag h
  | wdtCheck => exact execWdtCheck_writes h
  | get | status => cases h; exact .of_leaves (.emit s _) _
  | feed | frameAcc | frameGyro | frameAngle | frameMag | frameOther =>
    cases h; exact State.feed_writes (by simp [isIngestion]) s _
  | setBaud code => cases h; exact State.configure_writes _ s (configWrite_setBaud s.params code)
  | setRate code => cases h; exact State.configure_writes _ s (configWrite_setRate s.params code)
  | setContent mask => cases h; exact State.configure_writes _ s (configWrite_setContent s.params mask)
  | setBandwidth code => cases h; exact State.configure_writes _ s (configWrite_setBandwidth s.params code)
  | accCalStart | accCalStop | magCalStart | magCalStop | manualCalEnter | manualCalExit | zeroYaw =>
    cases h; exact State.configure_writes _ s fun _ => rfl
  | readReg addr => cases h; exact .of_leaves (State.requestRead_leaves s addr) _
  | cmdUnlock | cmdSave | cmdReadReq | cmdWrite => cases h; exact .of_leaves (.sent s _ []) _

/-! ### What a step may write -/

/-- What one atomic step may write: nothing, an instruction's writes, or the sequencer's own (42_command_encoder.md R190). -/
inductive StepWrite (s : State) : State → Prop where
  | none : StepWrite s s
  | instr (i : Instr) {u : State} : InstrWrite s i u → StepWrite s u
  /-- `complete(r)`. -/
  | complete : StepWrite s { s with cePhase := .idle }
  /-- The settle wait restarts in another phase of the pending sequence. -/
  | advance (phase : CePhase) : s.cePhase ≠ .idle → StepWrite s { s with ceT0 := s.now, cePhase := phase }

theorem decodeCommand_format {bytes rest : List Byte} {i : Instr} (h : decodeCommand bytes = .ok (i, rest)) :
    i.format = .cmd5 := by
  unfold decodeCommand at h
  split at h
  · split at h
    · split at h
      · cases h
        unfold classifyCommand
        repeat' split
        all_goals rfl
      · cases h
    · cases h
  · cases h

/-- A command row is its transmit request (42_command_encoder.md R191; log 8). -/
theorem exec_of_cmd5 {i : Instr} (h : i.format = .cmd5) (s : State) : ∃ c, exec i s = .next (s.transmit c) := by
  cases i with
  | cmdUnlock | cmdSave | cmdReadReq | cmdWrite => exact ⟨_, rfl⟩
  | _ => cases h

theorem State.cePhase_ne_idle_of_sequencerFrame {s : State} {c : CmdFrame} (h : s.sequencerFrame = some c) :
    s.cePhase ≠ .idle := by
  intro hidle
  simp [State.sequencerFrame, hidle] at h

/-- A step's register writes, with time passing and bytes consumed before them and outputs after them. -/
def HasStepWrite (s t : State) : Prop := ∃ u v, LeavesRegisters s u ∧ StepWrite u v ∧ LeavesRegisters v t

theorem HasStepWrite.of_leaves {s t : State} (h : LeavesRegisters s t) : HasStepWrite s t :=
  ⟨s, s, .refl s, .none, h⟩

theorem State.complete_leaves (s : State) (code : Word) : LeavesRegisters { s with cePhase := .idle } (s.complete code) :=
  .emit _ _

theorem State.sequencerAdvance_writes {s u : State} (hu : LeavesRegisters s u) (hpending : u.cePhase ≠ .idle)
    (answer : TxAnswer) : HasStepWrite s (u.sequencerAdvance answer) := by
  cases answer with
  | ok => exact ⟨u, _, hu, .advance _ hpending, .refl _⟩
  | fail => exact ⟨u, _, hu, .complete, State.complete_leaves u _⟩

theorem State.sequencerFinish_writes (s : State) : HasStepWrite s s.sequencerFinish := by
  unfold State.sequencerFinish
  split
  · exact ⟨s, _, .refl s, .complete, State.complete_leaves s _⟩
  · exact .of_leaves (.refl s)

theorem HasStepWrite.after {s t u : State} (h : LeavesRegisters s u) (hw : HasStepWrite u t) : HasStepWrite s t := by
  obtain ⟨v, w, hv, hvw, hwt⟩ := hw
  exact ⟨v, w, h.trans hv, hvw, hwt⟩

theorem State.fetch_settled_writes {agent : Agent} {s t : State} (h : s.fetch agent = .settled t) : HasStepWrite s t := by
  cases agent with
  | host =>
    simp only [State.fetch, State.fetchHost] at h
    split at h <;> cases h
    · exact .of_leaves ((LeavesRegisters.setHostIn s _).trans (.answered _ _))
    · exact .of_leaves (.refl s)
  | receive =>
    simp only [State.fetch, State.fetchReceived] at h
    split at h
    · cases h
    · split at h <;> cases h
      exact .of_leaves (.refl s)
  | sequencer =>
    simp only [State.fetch, State.fetchSequencer] at h
    split at h
    · cases h
      exact State.sequencerFinish_writes s
    · next c hframe =>
      split at h <;> cases h
      exact State.sequencerAdvance_writes (.sent s c []) (State.cePhase_ne_idle_of_sequencerFrame hframe) _

/-- Fetching writes no register, and the sequencer runs nothing but command rows of a pending sequence. -/
theorem State.fetch_run_leaves {agent : Agent} {s before : State} {i : Instr} (h : s.fetch agent = .run i before) :
    LeavesRegisters s before ∧ (agent = .sequencer → i.format = .cmd5 ∧ before.cePhase ≠ .idle) := by
  cases agent with
  | host =>
    simp only [State.fetch, State.fetchHost] at h
    split at h <;> cases h
    exact ⟨.setHostIn s _, nofun⟩
  | receive =>
    simp only [State.fetch, State.fetchReceived] at h
    split at h
    · cases h
      exact ⟨.setRxIn s _, nofun⟩
    · split at h <;> cases h
      exact ⟨.setRxIn s _, nofun⟩
  | sequencer =>
    simp only [State.fetch, State.fetchSequencer] at h
    split at h
    · cases h
    · next c hframe =>
      split at h <;> cases h
      next hdecode =>
      exact ⟨.refl s, fun _ => ⟨decodeCommand_format hdecode, State.cePhase_ne_idle_of_sequencerFrame hframe⟩⟩

/-- An instruction that an agent runs, and what the agent then has left to do. -/
theorem retire_writes {agent : Agent} {i : Instr} {s t : State} (hexec : exec i s = .next t)
    (hsequencer : agent = .sequencer → i.format = .cmd5 ∧ s.cePhase ≠ .idle) :
    HasStepWrite s (t.retire agent s) := by
  by_cases hagent : agent = .sequencer
  · obtain ⟨hformat, hpending⟩ := hsequencer hagent
    obtain ⟨c, hc⟩ := exec_of_cmd5 hformat s
    cases hexec.symm.trans hc
    subst hagent
    exact State.sequencerAdvance_writes (.sent s c []) hpending _
  · rw [State.retire_of_ne_sequencer hagent]
    obtain ⟨u, hu, hut⟩ := exec_writes hexec
    exact ⟨s, u, .refl s, .instr i hu, hut⟩

/-- Every step's effect on the registers is one `StepWrite`; before it time passes and after it outputs are appended. -/
theorem step_writes {s t : State} (h : step s = .next t) : HasStepWrite s t := by
  have hturn := LeavesRegisters.beginTurn s
  rcases step_cases h with hsettled | ⟨i, before, after, hrun, hexec, rfl⟩
  · exact .after hturn (State.fetch_settled_writes hsettled)
  · obtain ⟨hbefore, hsequencer⟩ := State.fetch_run_leaves hrun
    exact .after (hturn.trans hbefore) (retire_writes hexec hsequencer)

/-! ### The frame state under byte steps (R37) -/

theorem State.frameInv_of_sameFrameState {s t : State} (h : SameFrameState s t) (hs : s.frameInv) : t.frameInv := by
  obtain ⟨hfb, hcursor, hfstate⟩ := h
  simpa only [State.frameInv, hfb, hcursor, hfstate] using hs

theorem getD_zero_setIfInBounds (fb : Vector Byte 11) (k : Nat) (b : Byte) :
    (fb.setIfInBounds k b).getD 0 0 = if k = 0 then b else fb.getD 0 0 := by
  simp [Vector.getD, Array.getElem_setIfInBounds]

theorem State.idleStep_frameInv {s : State} (hidle : s.fstate = .idle) (hcursor : s.cursor = 0) (b : Byte) :
    (s.idleStep b).frameInv := by
  unfold State.idleStep
  split
  · next hb =>
    have hheader : (s.fb.setIfInBounds 0 b).getD 0 0 = 0x55 := by rw [getD_zero_setIfInBounds, if_pos rfl, hb]; rfl
    exact ⟨nofun, fun _ => ⟨by simp, by simp, hheader⟩, nofun, nofun⟩
  · simp [State.frameInv, hidle, hcursor]

theorem State.completeFrame_frameInv {s : State} (hcursor : s.cursor = 11) (hheader : s.fb.getD 0 0 = 0x55) :
    s.completeFrame.frameInv := by
  unfold State.completeFrame
  split
  · next hvalid =>
    obtain ⟨-, hkept, -⟩ := State.decodePacket_keeps { s with fstate := .ready }.wdFeed
    refine State.frameInv_of_sameFrameState hkept ?_
    have hsum : checksum s.fb = s.fb.getD 10 0 := of_decide_eq_true hvalid
    exact ⟨nofun, nofun, fun _ => ⟨hcursor, hheader, hsum⟩, nofun⟩
  · next hvalid =>
    have hsum : checksum s.fb ≠ s.fb.getD 10 0 := by simpa [checksumValid] using hvalid
    exact ⟨nofun, nofun, nofun, fun _ => ⟨hcursor, hheader, hsum⟩⟩

theorem State.recvStep_frameInv {s : State} (hreceiving : s.fstate = .receiving) (hlow : 1 ≤ s.cursor.toNat)
    (hhigh : s.cursor.toNat ≤ 10) (hheader : s.fb.getD 0 0 = 0x55) (b : Byte) : (s.recvStep b).frameInv := by
  have hkept : (s.appendByte b).fb.getD 0 0 = 0x55 := by
    rw [State.appendByte_fb, getD_zero_setIfInBounds, if_neg (by omega), hheader]
  unfold State.recvStep
  dsimp only
  split
  · next hfull => exact State.completeFrame_frameInv hfull hkept
  · next hopen =>
    have hmore : 1 ≤ (s.cursor + 1).toNat ∧ (s.cursor + 1).toNat ≤ 10 := by
      simp only [State.appendByte_cursor] at hopen
      bv_omega
    refine ⟨?_, fun _ => ⟨hmore.1, hmore.2, hkept⟩, ?_, ?_⟩ <;> simp [hreceiving]

theorem State.byteStep_frameInv {s : State} (hs : s.frameInv) (b : Byte) : (s.byteStep b).frameInv := by
  obtain ⟨hidle, hreceiving, -, -⟩ := hs
  unfold State.byteStep
  split
  · next h => exact State.idleStep_frameInv h (hidle h) b
  · next h =>
    obtain ⟨hlow, hhigh, hheader⟩ := hreceiving h
    rw [if_pos ⟨hlow, hhigh⟩]
    exact State.recvStep_frameInv h hlow hhigh hheader b
  · exact State.idleStep_frameInv rfl rfl b
  · exact State.idleStep_frameInv rfl rfl b

theorem State.feedBytes_frameInv (data : List Byte) : ∀ {s : State}, s.frameInv → (s.feedBytes data).frameInv := by
  induction data with
  | nil => exact id
  | cons b data ih => exact fun hs => ih (State.byteStep_frameInv hs b)

/-! ### The invariant -/

theorem State.live_iff (s : State) : s.live = true ↔ s.created = true ∧ s.enabled = true := by
  simp [State.live]

/-- A recovery happens in a created and enabled block alone (43_watchdog.md R232). -/
theorem State.live_of_windowExceeded {s : State} (h : s.windowExceeded = true) : s.created = true ∧ s.enabled = true := by
  obtain ⟨⟨⟨hcreated, henabled⟩, -⟩, -⟩ : ((s.created = true ∧ s.enabled = true) ∧ _) ∧ _ := by
    simpa only [State.windowExceeded, Bool.and_eq_true] using h
  exact ⟨hcreated, henabled⟩

theorem LeavesRegisters.inv {s t : State} (h : LeavesRegisters s t) (hs : s.Inv) : t.Inv := by
  obtain ⟨⟨hcreated, henabled, hresp⟩, ⟨hgyro, hangle, hacc, hmag, htemp, hversion, hts, hvalid⟩,
    ⟨hfb, hcursor, hfstate⟩, ⟨hlast, hwindow, harmed, hcount⟩, ⟨hphase, hframe, ht0, hop⟩⟩ := h.registers
  constructor
  · exact State.frameInv_of_sameFrameState ⟨hfb, hcursor, hfstate⟩ hs.frame
  · simpa only [State.atPowerOn, State.snapshotClear, hcreated, henabled, hresp, hgyro, hangle, hacc, hmag, htemp, hversion,
      hts, hvalid, hfb, hcursor, hfstate, hlast, hwindow, harmed, hcount, hphase, hframe, ht0] using hs.uncreated
  · simpa only [State.snapshotClear, hcreated, henabled, hgyro, hangle, hacc, hmag, htemp, hversion, hts, hvalid]
      using hs.disabled
  · simpa only [hvalid, hcreated, henabled] using hs.valid
  · simpa only [hphase, hcreated] using hs.phase
  · simpa only [hphase, h.params, hop, hframe] using hs.pendingFrame
  · simpa only [hwindow] using hs.window
  · simpa only [hcreated, hresp] using hs.timeout
  · simpa only [h.params] using hs.params

theorem State.chosenTimeout_ne_zero {s : State} (h : s.params.wf) (timeout : Word) : s.chosenTimeout timeout ≠ 0 := by
  obtain ⟨-, -, -, -, -, -, hdefault⟩ := h
  unfold State.chosenTimeout
  split <;> assumption

/-- CREATE's writes need no more of the state before than its parameters' bounds. -/
theorem State.initialise_inv {s : State} (h : s.params.wf) (timeout : Word) : (s.initialise timeout).Inv where
  frame := by simp [State.frameInv, State.initialise]
  uncreated := nofun
  disabled _ _ := ⟨rfl, rfl, rfl, rfl, rfl, rfl, rfl, rfl⟩
  valid := nofun
  phase := .inl rfl
  pendingFrame hpending := absurd rfl hpending
  window := .inl rfl
  timeout _ := State.chosenTimeout_ne_zero h timeout
  params := h

/-- In a live block byte steps are free to write the snapshot, and they keep the frame state's invariant. -/
theorem State.feedBytes_inv {s : State} (hs : s.Inv) (hlive : s.live = true) (data : List Byte) :
    (s.feedBytes data).Inv := by
  have hkeeps := State.feedBytes_keeps data s
  obtain ⟨hcreated, henabled, hresp⟩ := hkeeps.lifecycle
  obtain ⟨hphase, hframe, -, hop⟩ := hkeeps.sequencer
  obtain ⟨hc, he⟩ : s.created = true ∧ s.enabled = true := s.live_iff.1 hlive
  constructor
  · exact State.feedBytes_frameInv data hs.frame
  · simp [hcreated, hc]
  · simp [henabled, he]
  · exact fun _ => ⟨hcreated.trans hc, henabled.trans he⟩
  · exact .inr (hcreated.trans hc)
  · simpa only [hphase, hkeeps.params, hop, hframe] using hs.pendingFrame
  · simpa only [hkeeps.wdTimeout] using hs.window
  · simpa only [hcreated, hresp] using hs.timeout
  · simpa only [hkeeps.params] using hs.params

theorem InstrWrite.inv {i : Instr} {s t : State} (h : InstrWrite s i t) (hs : s.Inv) : t.Inv := by
  cases h with
  | none => exact hs
  | create tp timeout => exact State.initialise_inv hs.params timeout
  | enable flag hcreated =>
    exact { hs with
      uncreated := fun h => nomatch hcreated.symm.trans h
      disabled := nofun
      valid := fun _ => ⟨hcreated, rfl⟩ }
  | disable flag hcreated =>
    exact { hs with
      frame := by simp [State.frameInv]
      uncreated := fun h => nomatch hcreated.symm.trans h
      disabled := fun _ _ => ⟨rfl, rfl, rfl, rfl, rfl, rfl, rfl, rfl⟩
      valid := nofun }
  | ingest data _ hlive => exact State.feedBytes_inv hs hlive data
  | setWindow timeout hcreated hwindow =>
    exact { hs with
      uncreated := fun h => nomatch hcreated.symm.trans h
      window := .inr (of_decide_eq_true hwindow) }
  | arm flag hcreated | disarm flag hcreated =>
    exact { hs with uncreated := fun h => nomatch hcreated.symm.trans h }
  | recover hexceeded =>
    obtain ⟨hcreated, henabled⟩ := State.live_of_windowExceeded hexceeded
    exact { hs with
      frame := by simp [State.frameInv]
      uncreated := fun h => nomatch hcreated.symm.trans h
      disabled := fun _ h => nomatch henabled.symm.trans h
      valid := nofun }
  | issue op c hlive _ hframe =>
    obtain ⟨hcreated, -⟩ := s.live_iff.1 hlive
    exact { hs with
      uncreated := fun h => nomatch hcreated.symm.trans h
      phase := .inr hcreated
      pendingFrame := fun _ => hframe }

theorem StepWrite.inv {s t : State} (h : StepWrite s t) (hs : s.Inv) : t.Inv := by
  cases h with
  | none => exact hs
  | instr i h => exact h.inv hs
  | complete =>
    exact { hs with
      uncreated := fun h => by
        obtain ⟨henabled, hresp, hsnapshot, hfb, hcursor, hfstate, hlast, hwindow, harmed, hcount, -, hframe, ht0⟩ :=
          hs.uncreated h
        exact ⟨henabled, hresp, hsnapshot, hfb, hcursor, hfstate, hlast, hwindow, harmed, hcount, rfl, hframe, ht0⟩
      phase := .inl rfl
      pendingFrame := fun hpending => absurd rfl hpending }
  | advance phase hpending =>
    have hcreated : s.created = true := hs.phase.resolve_left hpending
    exact { hs with
      uncreated := fun h => nomatch hcreated.symm.trans h
      phase := .inr hcreated
      pendingFrame := fun _ => hs.pendingFrame hpending }

/-! ### What writes keep and let grow -/

/-- History does not run back: `CREATED` stays, time and outputs only grow, the parameters are fixed (R22, R43, R44). -/
structure HistoryGrows (s t : State) : Prop where
  created : s.created = true → t.created = true
  time : s.tAbs ≤ t.tAbs
  out : s.out <+: t.out
  params : t.params = s.params

theorem HistoryGrows.trans {s t u : State} (h : HistoryGrows s t) (k : HistoryGrows t u) : HistoryGrows s u :=
  ⟨k.created ∘ h.created, h.time.trans k.time, h.out.trans k.out, k.params.trans h.params⟩

theorem LeavesRegisters.historyGrows {s t : State} (h : LeavesRegisters s t) : HistoryGrows s t := by
  obtain ⟨⟨hcreated, -, -⟩, -⟩ := h.registers
  exact ⟨hcreated.trans, h.time, h.out, h.params⟩

/-- Register writes take no time and put nothing out, and CREATE alone writes `CREATED`. -/
theorem InstrWrite.historyGrows {i : Instr} {s t : State} (h : InstrWrite s i t) : HistoryGrows s t := by
  cases h with
  | create => exact ⟨fun _ => rfl, le_rfl, List.prefix_refl _, rfl⟩
  | ingest data =>
    have hkeeps := State.feedBytes_keeps data s
    obtain ⟨hcreated, -, -⟩ := hkeeps.lifecycle
    exact ⟨hcreated.trans, hkeeps.tAbs.ge, by rw [hkeeps.out], hkeeps.params⟩
  | _ => exact ⟨id, le_rfl, List.prefix_refl _, rfl⟩

theorem StepWrite.historyGrows {s t : State} (h : StepWrite s t) : HistoryGrows s t := by
  cases h with
  | instr i h => exact h.historyGrows
  | _ => exact ⟨id, le_rfl, List.prefix_refl _, rfl⟩

/-- The recovery counter saturates (43_watchdog.md R236). -/
theorem le_bumpCount (count : Word) : count.toNat ≤ (bumpCount count).toNat := by
  unfold bumpCount
  split
  · bv_omega
  · exact le_rfl

/-- What each instruction's writes leave of the control registers, in a state that meets the invariant: an uncreated block's
are zero already when CREATE rewrites them (44_lifecycle_accessors.md R260). -/
structure ControlKept (i : Instr) (s t : State) : Prop where
  created : (∀ tp timeout, i ≠ .create tp timeout) → t.created = s.created ∧ t.respTimeout = s.respTimeout
  enabled : (∀ flag, i ≠ .enable flag) → t.enabled = s.enabled
  wdTimeout : (∀ timeout, i ≠ .wdtInit timeout) → t.wdTimeout = s.wdTimeout
  wdEnabled : (∀ flag, i ≠ .wdtEnable flag) → t.wdEnabled = s.wdEnabled
  wdCount : i ≠ .wdtCheck → t.wdCount = s.wdCount

theorem InstrWrite.controlKept {i : Instr} {s t : State} (h : InstrWrite s i t) (hs : s.Inv) : ControlKept i s t := by
  cases h with
  | create tp timeout hcreated =>
    obtain ⟨henabled, -, -, -, -, -, -, hwindow, harmed, hcount, -, -, -⟩ := hs.uncreated hcreated
    exact ⟨fun h => absurd rfl (h tp timeout), fun _ => henabled.symm, fun _ => hwindow.symm, fun _ => harmed.symm,
      fun _ => hcount.symm⟩
  | enable flag | disable flag =>
    exact ⟨fun _ => ⟨rfl, rfl⟩, fun h => absurd rfl (h flag), fun _ => rfl, fun _ => rfl, fun _ => rfl⟩
  | ingest data =>
    have hkeeps := State.feedBytes_keeps data s
    obtain ⟨hcreated, henabled, hresp⟩ := hkeeps.lifecycle
    exact ⟨fun _ => ⟨hcreated, hresp⟩, fun _ => henabled, fun _ => hkeeps.wdTimeout, fun _ => hkeeps.wdEnabled,
      fun _ => hkeeps.wdCount⟩
  | setWindow timeout =>
    exact ⟨fun _ => ⟨rfl, rfl⟩, fun _ => rfl, fun h => absurd rfl (h timeout), fun _ => rfl, fun _ => rfl⟩
  | arm flag | disarm flag =>
    exact ⟨fun _ => ⟨rfl, rfl⟩, fun _ => rfl, fun _ => rfl, fun h => absurd rfl (h flag), fun _ => rfl⟩
  | recover => exact ⟨fun _ => ⟨rfl, rfl⟩, fun _ => rfl, fun _ => rfl, fun _ => rfl, fun h => absurd rfl h⟩
  | none | issue => exact ⟨fun _ => ⟨rfl, rfl⟩, fun _ => rfl, fun _ => rfl, fun _ => rfl, fun _ => rfl⟩

theorem LeavesRegisters.controlKept {i : Instr} {s t u : State} (hw : ControlKept i s t) (h : LeavesRegisters t u) :
    ControlKept i s u := by
  obtain ⟨⟨hcreated, henabled, hresp⟩, -, -, ⟨-, hwindow, harmed, hcount⟩, -⟩ := h.registers
  constructor
  · rw [hcreated, hresp]; exact hw.created
  · rw [henabled]; exact hw.enabled
  · rw [hwindow]; exact hw.wdTimeout
  · rw [harmed]; exact hw.wdEnabled
  · rw [hcount]; exact hw.wdCount

theorem StepWrite.wdCount_le {s t : State} (h : StepWrite s t) (hs : s.Inv) : s.wdCount.toNat ≤ t.wdCount.toNat := by
  cases h with
  | instr i h =>
    by_cases hi : i = .wdtCheck
    · subst hi
      cases h with
      | recover => exact le_bumpCount s.wdCount
      | ingest _ hi => cases hi
      | none | issue => exact le_rfl
    · rw [(h.controlKept hs).wdCount hi]
  | _ => exact le_rfl

/-- The measurement registers of R25 to R31 are the same: the snapshot without `VALID`, which a recovery withdraws. -/
abbrev SameMeasurements (s t : State) : Prop :=
  t.gyro = s.gyro ∧ t.angle = s.angle ∧ t.acc = s.acc ∧ t.mag = s.mag ∧ t.temp = s.temp ∧ t.version = s.version ∧
    t.ts = s.ts

/-- Without received bytes, ENABLE and a recovery, the snapshot and the frame state are kept: CREATE finds them zero. -/
theorem InstrWrite.measurements_kept {i : Instr} {s t : State} (h : InstrWrite s i t) (hs : s.Inv) (hi : ¬isIngestion i)
    (henable : ∀ flag, i ≠ .enable flag) :
    SameMeasurements s t ∧ t.fb = s.fb ∧
      (i ≠ .wdtCheck → t.valid = s.valid ∧ t.cursor = s.cursor ∧ t.fstate = s.fstate) := by
  cases h with
  | create tp timeout hcreated =>
    obtain ⟨-, -, ⟨hgyro, hangle, hacc, hmag, htemp, hversion, hts, hvalid⟩, hfb, hcursor, hfstate, -⟩ :=
      hs.uncreated hcreated
    exact ⟨⟨hgyro.symm, hangle.symm, hacc.symm, hmag.symm, htemp.symm, hversion.symm, hts.symm⟩, hfb.symm,
      fun _ => ⟨hvalid.symm, hcursor.symm, hfstate.symm⟩⟩
  | enable flag | disable flag => exact absurd rfl (henable flag)
  | ingest data hingest => exact absurd hingest hi
  | recover => exact ⟨⟨rfl, rfl, rfl, rfl, rfl, rfl, rfl⟩, rfl, fun h => absurd rfl h⟩
  | _ => exact ⟨⟨rfl, rfl, rfl, rfl, rfl, rfl, rfl⟩, rfl, fun _ => ⟨rfl, rfl, rfl⟩⟩

/-! ### The parameters' bounds (00_scope.md R7) -/

theorem configParams_wf : Config.params.wf := by
  have hunlock := Config.settleUnlockOver.isLt
  have hwrite := Config.settleWriteOver.isLt
  have hsave := Config.settleSaveOver.isLt
  have hdefault : Config.params.defaultRespTimeout ≠ 0 := by
    have hover := Config.defaultRespTimeoutOver.isLt
    simp only [Config.params]
    bv_omega
  refine ⟨?_, ?_, ?_, ?_, ?_, ?_, hdefault⟩ <;> simp only [Config.params] <;> omega

/-! ### The obligations -/

/-- Settles O14: the step's one register write keeps the invariant, and the time and outputs around it do not touch it. -/
theorem stepKeepsTheInvariant : Obligations.StepKeepsTheInvariant := by
  intro s t hs hstep
  obtain ⟨u, v, hsu, huv, hvt⟩ := step_writes hstep
  exact hvt.inv (huv.inv (hsu.inv hs))

/-- Settles O16: a recovery's bump saturates, and CREATE clears the counter of an uncreated block alone, where it is zero. -/
theorem recoveryCounterNeverDecreases : Obligations.RecoveryCounterNeverDecreases := by
  intro s t hs hstep
  obtain ⟨u, v, hsu, huv, hvt⟩ := step_writes hstep
  have hcount := huv.wdCount_le (hsu.inv hs)
  obtain ⟨-, -, -, ⟨-, -, -, hbefore⟩, -⟩ := hsu.registers
  obtain ⟨-, -, -, ⟨-, -, -, hafter⟩, -⟩ := hvt.registers
  rwa [hbefore, ← hafter] at hcount

/-- Settles O17: each part of a step lets history grow. -/
theorem historyOnlyGrows : Obligations.HistoryOnlyGrows := by
  intro s t hstep
  obtain ⟨u, v, hsu, huv, hvt⟩ := step_writes hstep
  obtain ⟨hcreated, htime, ⟨new, hnew⟩, hparams⟩ :=
    hsu.historyGrows.trans (huv.historyGrows.trans hvt.historyGrows)
  exact ⟨hcreated, htime, ⟨new, hnew.symm⟩, hparams⟩

/-- Settles O20: the contrapositive of each clause of `ControlKept`. -/
theorem controlRegistersHaveOneWriter : Obligations.ControlRegistersHaveOneWriter := by
  intro i s t hs hexec
  obtain ⟨u, hsu, hut⟩ := exec_writes hexec
  obtain ⟨hcreated, henabled, hwindow, harmed, hcount⟩ := hut.controlKept (hsu.controlKept hs)
  refine ⟨fun hne => ?_, fun hne => ?_, fun hne => ?_, fun hne => ?_, fun hne => ?_⟩ <;> by_contra hother
  · push Not at hother
    obtain ⟨hsame, hsame'⟩ := hcreated hother
    exact hne.elim (absurd hsame) (absurd hsame')
  · exact hne (henabled (not_exists.1 hother))
  · exact hne (hwindow (not_exists.1 hother))
  · exact hne (harmed (not_exists.1 hother))
  · exact hne (hcount hother)

/-- Settles O21: the instruction's writes keep the measurements, and the outputs after them write no register. -/
theorem measurementsComeFromReceivedBytes : Obligations.MeasurementsComeFromReceivedBytes := by
  intro i s t hs hi henable hexec
  obtain ⟨u, hsu, hut⟩ := exec_writes hexec
  obtain ⟨⟨hgyro, hangle, hacc, hmag, htemp, hversion, hts⟩, hfb, hrest⟩ := hsu.measurements_kept hs hi henable
  obtain ⟨-, ⟨kgyro, kangle, kacc, kmag, ktemp, kversion, kts, kvalid⟩, ⟨kfb, kcursor, kfstate⟩, -, -⟩ := hut.registers
  refine ⟨kgyro.trans hgyro, kangle.trans hangle, kacc.trans hacc, kmag.trans hmag, ktemp.trans htemp,
    kversion.trans hversion, kts.trans hts, kfb.trans hfb, fun hcheck => ?_⟩
  obtain ⟨hvalid, hcursor, hfstate⟩ := hrest hcheck
  exact ⟨kvalid.trans hvalid, kcursor.trans hcursor, kfstate.trans hfstate⟩

/-- Settles O9: `beginTurn` writes `T_abs` and ENV's own bookkeeping alone. -/
theorem turnOnlyLetsTimePass : Obligations.TurnOnlyLetsTimePass := fun s =>
  ⟨(LeavesRegisters.beginTurn s).registers, s.beginTurn_tAbs, s.beginTurn_hostIn, s.beginTurn_rxIn, s.beginTurn_out,
    s.beginTurn_txAnswers, s.beginTurn_reinitAnswers, s.beginTurn_params⟩

/-- Settles O13: an uncreated block at its power-on values, with Config's parameters within R7's bounds. -/
theorem powerOnMeetsTheInvariant : Obligations.PowerOnMeetsTheInvariant where
  frame := ⟨fun _ => rfl, nofun, nofun, nofun⟩
  uncreated := by decide
  disabled := nofun
  valid := nofun
  phase := .inl rfl
  pendingFrame hpending := absurd rfl hpending
  window := .inl rfl
  timeout := nofun
  params := configParams_wf

end Sys2Proof.Machine
end

/-! ## The family of 20_memory.md: chunks of the ingress stream (R73, R75) and HOST's turn (R68, R72) -/

section
namespace Sys2Proof.Machine

/-! ### Byte steps neither read nor write the output history -/

/-- The state with `new` appended to its output history. -/
def State.emits (s : State) (new : List Output) : State := { s with out := s.out ++ new }

theorem State.answered_eq_emits (s : State) (code : Word) : s.answered code = s.emits [.result code] := rfl

@[simp] theorem State.emits_nil (s : State) : s.emits [] = s := by simp [State.emits]

@[simp] theorem State.emits_emits (s : State) (new more : List Output) :
    (s.emits new).emits more = s.emits (new ++ more) := by
  simp [State.emits]

@[simp] theorem State.emits_fb (s : State) (new : List Output) : (s.emits new).fb = s.fb := rfl
@[simp] theorem State.emits_params (s : State) (new : List Output) : (s.emits new).params = s.params := rfl
@[simp] theorem State.emits_field (s : State) (new : List Output) (k : Nat) : (s.emits new).field k = s.field k := rfl
@[simp] theorem State.emits_raw (s : State) (new : List Output) (k : Nat) : (s.emits new).raw k = s.raw k := rfl
@[simp] theorem State.emits_cursor (s : State) (new : List Output) : (s.emits new).cursor = s.cursor := rfl
@[simp] theorem State.emits_fstate (s : State) (new : List Output) : (s.emits new).fstate = s.fstate := rfl
@[simp] theorem State.emits_live (s : State) (new : List Output) : (s.emits new).live = s.live := rfl

theorem State.idleStep_emits (s : State) (new : List Output) (b : Byte) :
    (s.emits new).idleStep b = (s.idleStep b).emits new := by
  unfold State.idleStep
  split <;> rfl

theorem State.decodePacket_emits (s : State) (new : List Output) :
    (s.emits new).decodePacket = s.decodePacket.emits new := by
  simp only [State.decodePacket, State.decodeAcc, State.decodeGyro, State.decodeAngle, State.decodeMag, State.emits_fb,
    State.emits_params, State.emits_raw, State.emits_field, apply_ite (State.emits · new)]
  rfl

theorem State.completeFrame_emits (s : State) (new : List Output) :
    (s.emits new).completeFrame = s.completeFrame.emits new := by
  simp only [State.completeFrame, apply_ite (State.emits · new), ← State.decodePacket_emits]
  rfl

theorem State.recvStep_emits (s : State) (new : List Output) (b : Byte) :
    (s.emits new).recvStep b = (s.recvStep b).emits new := by
  have happend : (s.emits new).appendByte b = (s.appendByte b).emits new := rfl
  simp only [State.recvStep, happend, State.emits_cursor]
  split
  · exact State.completeFrame_emits _ new
  · rfl

/-- A byte step neither reads the output history nor adds to it, so results between chunks make no difference (R73). -/
theorem State.byteStep_emits (s : State) (new : List Output) (b : Byte) :
    (s.emits new).byteStep b = (s.byteStep b).emits new := by
  have hscan : (s.emits new).resetFrame.idleStep b = (s.resetFrame.idleStep b).emits new :=
    State.idleStep_emits s.resetFrame new b
  simp only [State.byteStep, State.emits_fstate]
  split
  · exact s.idleStep_emits new b
  · rw [apply_ite (State.emits · new), ← s.recvStep_emits new b, State.overflowStep, State.overflowStep, ← hscan]
    rfl
  · exact hscan
  · exact hscan

theorem State.feedBytes_emits (data : List Byte) (new : List Output) :
    ∀ s : State, (s.emits new).feedBytes data = (s.feedBytes data).emits new := by
  induction data with
  | nil => exact fun _ => rfl
  | cons b data ih =>
    intro s
    calc (s.emits new).feedBytes (b :: data)
        = ((s.byteStep b).emits new).feedBytes data := by rw [← s.byteStep_emits new b]; rfl
      _ = (s.feedBytes (b :: data)).emits new := ih (s.byteStep b)

/-! ### FEEDs one after another -/

/-- The frame state persists between chunks. -/
theorem State.feedBytes_append (s : State) (data more : List Byte) :
    s.feedBytes (data ++ more) = (s.feedBytes data).feedBytes more := List.foldl_append

theorem State.feedBytes_live (s : State) (data : List Byte) : (s.feedBytes data).live = s.live := by
  obtain ⟨hcreated, henabled, -⟩ := (State.feedBytes_keeps data s).lifecycle
  simp only [State.live, hcreated, henabled]

theorem State.feed_of_not_live {s : State} (hlive : s.live = false) (data : List Byte) :
    s.feed data = s.answered codeState := by
  simpa [hlive] using s.feed_cases data

theorem State.feed_of_live {s : State} (hlive : s.live = true) {data : List Byte} (hdata : data ≠ []) :
    s.feed data = (s.feedBytes data).answered codeOk := by
  simpa [hlive, hdata] using s.feed_cases data

/-- In a live block FEED takes its byte steps, of which there are none where it is rejected. -/
theorem State.feed_answers_feedBytes {s : State} (hlive : s.live = true) (data : List Byte) :
    ∃ code, s.feed data = (s.feedBytes data).answered code := by
  rcases s.feed_cases data with ⟨hdead, -⟩ | ⟨-, rfl, hfeed⟩ | ⟨-, -, hfeed⟩
  · simp [hlive] at hdead
  · exact ⟨codeParam, hfeed⟩
  · exact ⟨codeOk, hfeed⟩

theorem execAll_feed_cons (data : List Byte) (chunks : List (List Byte)) (s : State) :
    execAll ((data :: chunks).map Instr.feed) s = execAll (chunks.map Instr.feed) (s.feed data) := rfl

/-- A block that is not live rejects every chunk. -/
theorem execAll_feeds_of_not_live (chunks : List (List Byte)) :
    ∀ {s : State}, s.live = false →
      execAll (chunks.map Instr.feed) s = .next (s.emits (chunks.map fun _ => .result codeState)) := by
  induction chunks with
  | nil => intro s _; simp [execAll]
  | cons data chunks ih =>
    intro s hlive
    rw [execAll_feed_cons, State.feed_of_not_live hlive, State.answered_eq_emits, ih (by simpa using hlive),
      State.emits_emits]
    rfl

/-- A live block takes the byte steps of all chunks in order (R75) and answers each chunk. -/
theorem execAll_feeds_of_live (chunks : List (List Byte)) :
    ∀ {s : State}, s.live = true → (∀ c ∈ chunks, c ≠ []) →
      execAll (chunks.map Instr.feed) s =
        .next ((s.feedBytes chunks.flatten).emits (chunks.map fun _ => .result codeOk)) := by
  induction chunks with
  | nil => intro s _ _; simp [execAll, State.feedBytes]
  | cons data chunks ih =>
    intro s hlive hchunks
    obtain ⟨hdata, hrest⟩ := List.forall_mem_cons.1 hchunks
    have hlive' : ((s.feedBytes data).emits [.result codeOk]).live = true := by
      rw [State.emits_live, State.feedBytes_live, hlive]
    rw [execAll_feed_cons, State.feed_of_live hlive hdata, State.answered_eq_emits, ih hlive' hrest,
      State.feedBytes_emits, State.emits_emits, List.flatten_cons, State.feedBytes_append]
    rfl

/-- FEEDs of the chunks and the FEED of their bytes leave one state, but for the results on HOST. -/
theorem feeds_and_feed_agree (s : State) {chunks : List (List Byte)} (hchunks : ∀ c ∈ chunks, c ≠ []) :
    ∃ (common : State) (results : List Output) (code : Word),
      execAll (chunks.map Instr.feed) s = .next (common.emits results) ∧
        s.feed chunks.flatten = common.answered code := by
  cases hlive : s.live with
  | false => exact ⟨s, _, _, execAll_feeds_of_not_live chunks hlive, State.feed_of_not_live hlive _⟩
  | true =>
    obtain ⟨code, hfeed⟩ := State.feed_answers_feedBytes hlive chunks.flatten
    exact ⟨_, _, code, execAll_feeds_of_live chunks hlive hchunks, hfeed⟩

/-! ### HOSTCMD: decoding the bytes of an operation -/

@[simp] theorem wordOperand_wordBytes (mk : Word → Instr) (w : Word) (rest : List Byte) :
    wordOperand mk (wordBytes w ++ rest) = .ok (mk w, rest) := by
  simp [wordOperand, wordBytes]

@[simp] theorem createOperands_cons_wordBytes (tp : Byte) (w : Word) (rest : List Byte) :
    createOperands (tp :: (wordBytes w ++ rest)) = .ok (.create tp w, rest) :=
  wordOperand_wordBytes (.create tp) w rest

/-- LEN counts DATA's bytes, because `wf` keeps their number within a u16 (30_encoding.md R101). -/
theorem feedOperands_halfBytes {data : List Byte} (h : feedLengthOk data) (rest : List Byte) :
    feedOperands (halfBytes (BitVec.ofNat 16 data.length) ++ (data ++ rest)) = .ok (.feed data, rest) := by
  have hlen : (BitVec.ofNat 16 data.length).toNat = data.length := by
    rw [BitVec.toNat_ofNat, Nat.mod_eq_of_lt (by omega)]
  simp [feedOperands, halfBytes, hlen]

/-- The HOSTCMD part of decoding after encoding: the operation byte picks the row of R100's table, and the row's operands read
back what was written. -/
theorem decodeHost_encode {i : Instr} (hwf : i.wf = true) (hformat : i.format = .hostcmd) (rest : List Byte) :
    decodeHost (encode i ++ rest) = .ok (i, rest) := by
  cases i with
  | create tp timeout => exact createOperands_cons_wordBytes tp timeout rest
  | feed data =>
    have hlength : feedLengthOk data := of_decide_eq_true hwf
    simpa [encode, decodeHost] using feedOperands_halfBytes hlength rest
  | wdtInit w | setBaud w | setRate w | setContent w | setBandwidth w | readReg w =>
    exact wordOperand_wordBytes _ w rest
  | enable | get | status | wdtEnable => rfl
  | wdtCheck | accCalStart | accCalStop | magCalStart | magCalStop | manualCalEnter | manualCalExit | zeroYaw => rfl
  | _ => cases hformat

theorem State.fetchHost_of_operation {s : State} {i : Instr} {rest : List Byte} (h : decodeHost s.hostIn = .ok (i, rest)) :
    s.fetchHost = .run i { s with hostIn := rest } := by
  simp [State.fetchHost, h]

/-! ### The obligations -/

/-- Settles O30: chunks and their concatenation take the same byte steps, which do not see the results between the chunks. -/
theorem framingIsChunkSizeIndependent : Obligations.FramingIsChunkSizeIndependent := by
  intro s chunks hchunks
  obtain ⟨common, results, code, hfeeds, hfeed⟩ := feeds_and_feed_agree s hchunks
  obtain ⟨-, hsnapshot, hframe, ⟨hwdLast, -⟩, -⟩ : SameRegisters (common.emits results) (common.answered code) :=
    .refl common
  exact ⟨_, _, hfeeds, congrArg Host.Outcome.next hfeed, hframe, hsnapshot, hwdLast.symm⟩

/-- Settles O5: ENV's turn leaves HOST's bytes as they are, and the operation at their head decodes to the instruction it
encodes. -/
theorem stepRunsTheHostOperation : Obligations.StepRunsTheHostOperation := by
  intro s i rest hagent hhost hwf hformat
  have hdecode : decodeHost s.beginTurn.hostIn = .ok (i, rest) := by
    rw [State.beginTurn_hostIn, hhost, decodeHost_encode hwf hformat]
  exact step_of_fetch_run (by simp [hagent]) (by rw [hagent]; exact State.fetchHost_of_operation hdecode)

end Sys2Proof.Machine
end

/-! ## The family of 30_encoding.md: decoding is encoding's inverse, reserved bytes (R102), and what goes out on TX (R109) -/

section
namespace Sys2Proof.Machine

/-! ### Byte order, read back -/

theorem wordBytes_le32 (b0 b1 b2 b3 : Byte) : wordBytes (le32 b0 b1 b2 b3) = [b0, b1, b2, b3] := by
  have hword : (le32 b0 b1 b2 b3).toNat = b0.toNat + 256 * b1.toNat + 65536 * b2.toNat + 16777216 * b3.toNat := by
    rw [le32, BitVec.toNat_ofNat]
    omega
  simp only [wordBytes, wordByte, hword, List.cons.injEq, and_true]
  refine ⟨?_, ?_, ?_, ?_⟩ <;> bv_omega

theorem halfBytes_le16 (lo hi : Byte) : halfBytes (le16 lo hi) = [lo, hi] := by
  simp [halfBytes]

/-- The two bytes of a 16-bit value, low byte first, make up its value (30_encoding.md R62, R63). -/
theorem toNat_eq_highByte_lowByte (v : Half) : v.toNat = (highByte v).toNat * 256 + (lowByte v).toNat := by
  simp only [highByte, lowByte]
  bv_omega

theorem eq_le16_iff (v : Half) (lo hi : Byte) : v = le16 lo hi ↔ lowByte v = lo ∧ highByte v = hi := by
  constructor
  · rintro rfl
    exact ⟨lowByte_le16 lo hi, highByte_le16 lo hi⟩
  · rintro ⟨rfl, rfl⟩
    exact (le16_lowByte_highByte v).symm

theorem toNat_lt_256_iff (v : Half) : v.toNat < 256 ↔ highByte v = 0 := by
  simp only [highByte]
  bv_omega

/-! ### CMD5: decoding the bytes of a command -/

@[simp] theorem decodeCommand_writeBytes (addr : Byte) (data : Half) (rest : List Byte) :
    decodeCommand (writeBytes addr data ++ rest) = .ok (classifyCommand addr (lowByte data) (highByte data), rest) := by
  simp [decodeCommand, writeBytes]

/-- What `wf` asks of a CMD_WRITE, on the bytes that the decoder sees. -/
theorem plainWriteOk_iff (addr : Byte) (data : Half) :
    plainWriteOk addr data ↔
      ¬(addr = 0x69 ∧ lowByte data = 0x88 ∧ highByte data = 0xB5) ∧
        ¬(addr = 0x00 ∧ lowByte data = 0x00 ∧ highByte data = 0x00) ∧ ¬(addr = readCommand ∧ highByte data = 0x00) := by
  have hunlock : (0xB588 : Half) = le16 0x88 0xB5 := rfl
  have hsave : (0x0000 : Half) = le16 0x00 0x00 := rfl
  rw [plainWriteOk, hunlock, hsave, eq_le16_iff, eq_le16_iff, toNat_lt_256_iff, readCommand]

/-- Unlock, save and read request are tried before write, and `wf` keeps their words out of CMD_WRITE (30_encoding.md R114). -/
theorem classifyCommand_of_plainWriteOk {addr : Byte} {data : Half} (h : plainWriteOk addr data) :
    classifyCommand addr (lowByte data) (highByte data) = .cmdWrite addr data := by
  obtain ⟨hunlock, hsave, hread⟩ := (plainWriteOk_iff addr data).1 h
  rw [classifyCommand, if_neg hunlock, if_neg hsave, if_neg hread, le16_lowByte_highByte]

/-- The CMD5 part of decoding after encoding. -/
theorem decodeCommand_encode {i : Instr} (hwf : i.wf = true) (hformat : i.format = .cmd5) (rest : List Byte) :
    decodeCommand (encode i ++ rest) = .ok (i, rest) := by
  cases i with
  | cmdUnlock => exact decodeCommand_writeBytes 0x69 0xB588 rest
  | cmdSave => exact decodeCommand_writeBytes 0x00 0x0000 rest
  | cmdReadReq addr => simp [encode, classifyCommand, readCommand]
  | cmdWrite addr data =>
    have hplain : plainWriteOk addr data := of_decide_eq_true hwf
    rw [encode, decodeCommand_writeBytes, classifyCommand_of_plainWriteOk hplain]
  | _ => cases hformat

/-! ### What a decoder reads -/

/-- An instruction stands at the head of bytes: it is well-formed, has the format, and its encoding is all before `rest`. -/
structure EncodedAt (f : Format) (bytes : List Byte) (i : Instr) (rest : List Byte) : Prop where
  wf : i.wf = true
  format : i.format = f
  bytes : bytes = encode i ++ rest

theorem byteOperand_ok {mk : Byte → Instr} {i : Instr} {bytes rest : List Byte} (h : byteOperand mk bytes = .ok (i, rest)) :
    ∃ b, i = mk b ∧ bytes = b :: rest := by
  cases bytes with
  | nil => cases h
  | cons b bytes =>
    cases h
    exact ⟨b, rfl, rfl⟩

theorem wordOperand_ok {mk : Word → Instr} {i : Instr} {bytes rest : List Byte} (h : wordOperand mk bytes = .ok (i, rest)) :
    ∃ w, i = mk w ∧ bytes = wordBytes w ++ rest := by
  unfold wordOperand at h
  split at h
  · next b0 b1 b2 b3 after =>
    cases h
    exact ⟨_, rfl, by rw [wordBytes_le32]; rfl⟩
  · cases h

theorem createOperands_ok {i : Instr} {bytes rest : List Byte} (h : createOperands bytes = .ok (i, rest)) :
    ∃ tp w, i = .create tp w ∧ bytes = tp :: (wordBytes w ++ rest) := by
  cases bytes with
  | nil => cases h
  | cons tp bytes =>
    obtain ⟨w, rfl, rfl⟩ := wordOperand_ok h
    exact ⟨tp, w, rfl, rfl⟩

theorem feedOperands_ok {i : Instr} {bytes rest : List Byte} (h : feedOperands bytes = .ok (i, rest)) :
    ∃ data, feedLengthOk data ∧ i = .feed data ∧ bytes = halfBytes (BitVec.ofNat 16 data.length) ++ (data ++ rest) := by
  unfold feedOperands at h
  split at h
  · next lo hi after =>
    dsimp only at h
    split at h
    · cases h
    · next hlong =>
      cases h
      have hlength : (after.take (le16 lo hi).toNat).length = (le16 lo hi).toNat := by
        rw [List.length_take]; omega
      refine ⟨_, ?_, rfl, ?_⟩
      · have := (le16 lo hi).isLt
        rw [feedLengthOk, hlength]
        omega
      · rw [hlength, List.take_append_drop, BitVec.ofNat_toNat, BitVec.setWidth_eq, halfBytes_le16]
        rfl
  · cases h

section
variable {op : Byte} {k : Nat} {i : Instr} {bytes rest : List Byte} (hop : op.toNat = k)
include hop

/-- An operation's row of R100's table: what is encoded after the operation byte is what the row's operands read. -/
theorem EncodedAt.of_operands {operands : List Byte} (hi : EncodedAt .hostcmd (BitVec.ofNat 8 k :: operands) i [])
    (hbytes : bytes = operands ++ rest) : EncodedAt .hostcmd (op :: bytes) i rest where
  wf := hi.wf
  format := hi.format
  bytes := by
    have hencode : BitVec.ofNat 8 k :: operands = encode i := by simpa using hi.bytes
    have hbyte : op = BitVec.ofNat 8 k := by rw [← hop, BitVec.ofNat_toNat, BitVec.setWidth_eq]
    rw [← hencode, hbyte, hbytes, List.cons_append]

theorem noOperand_encodedAt {j : Instr} (hj : EncodedAt .hostcmd [BitVec.ofNat 8 k] j [])
    (h : noOperand j bytes = .ok (i, rest)) : EncodedAt .hostcmd (op :: bytes) i rest := by
  cases h
  exact .of_operands hop hj rfl

theorem byteOperand_encodedAt {mk : Byte → Instr} (hmk : ∀ b, EncodedAt .hostcmd [BitVec.ofNat 8 k, b] (mk b) [])
    (h : byteOperand mk bytes = .ok (i, rest)) : EncodedAt .hostcmd (op :: bytes) i rest := by
  obtain ⟨b, rfl, rfl⟩ := byteOperand_ok h
  exact .of_operands hop (hmk b) rfl

theorem wordOperand_encodedAt {mk : Word → Instr}
    (hmk : ∀ w, EncodedAt .hostcmd (BitVec.ofNat 8 k :: wordBytes w) (mk w) [])
    (h : wordOperand mk bytes = .ok (i, rest)) : EncodedAt .hostcmd (op :: bytes) i rest := by
  obtain ⟨w, rfl, rfl⟩ := wordOperand_ok h
  exact .of_operands hop (hmk w) rfl

end

/-- The rows of R100's table by the shape of their operands: CREATE's and FEED's own, then none, a u8 and a u32 (R101). -/
theorem decodeHost_encodedAt {bytes rest : List Byte} {i : Instr} (h : decodeHost bytes = .ok (i, rest)) :
    EncodedAt .hostcmd bytes i rest := by
  unfold decodeHost at h
  split at h
  · cases h
  · next op bytes =>
    split at h
    case h_1 hop =>
      obtain ⟨tp, w, rfl, rfl⟩ := createOperands_ok h
      exact .of_operands hop (operands := tp :: wordBytes w) ⟨rfl, rfl, rfl⟩ rfl
    case h_3 hop =>
      obtain ⟨data, hlength, rfl, rfl⟩ := feedOperands_ok h
      exact .of_operands hop (operands := halfBytes (BitVec.ofNat 16 data.length) ++ data)
        ⟨decide_eq_true hlength, rfl, (List.append_nil _).symm⟩ (List.append_assoc _ _ _).symm
    case h_21 => cases h
    any_goals exact noOperand_encodedAt ‹op.toNat = _› ⟨rfl, rfl, rfl⟩ h
    any_goals exact byteOperand_encodedAt ‹op.toNat = _› (fun _ => ⟨rfl, rfl, rfl⟩) h
    any_goals exact wordOperand_encodedAt ‹op.toNat = _› (fun _ => ⟨rfl, rfl, rfl⟩) h

/-- The tests of the four decoded tags are what `wf` asks of FRAME_OTHER (R93, R114). -/
theorem classifyFrame_encodedAt (tag : Byte) (f0 f1 f2 f3 : Half) (sum : Byte) (rest : List Byte) :
    EncodedAt .frame11 (frameBytes tag f0 f1 f2 f3 sum ++ rest) (classifyFrame tag f0 f1 f2 f3 sum) rest := by
  unfold classifyFrame
  split_ifs with hacc hgyro hangle hmag
  · exact ⟨rfl, rfl, by rw [hacc]; rfl⟩
  · exact ⟨rfl, rfl, by rw [hgyro]; rfl⟩
  · exact ⟨rfl, rfl, by rw [hangle]; rfl⟩
  · exact ⟨rfl, rfl, by rw [hmag]; rfl⟩
  · have htag : otherTagOk tag := ⟨hacc, hgyro, hangle, hmag⟩
    exact ⟨decide_eq_true htag, rfl, rfl⟩

theorem decodeFrame_encodedAt {bytes rest : List Byte} {i : Instr} (h : decodeFrame bytes = .ok (i, rest)) :
    EncodedAt .frame11 bytes i rest := by
  unfold decodeFrame at h
  split at h
  · cases h
  · split at h
    · next hheader =>
      split at h
      · next tag p0l p0h p1l p1h p2l p2h p3l p3h sum after =>
        cases h
        simpa [frameBytes, hheader] using
          classifyFrame_encodedAt tag (le16 p0l p0h) (le16 p1l p1h) (le16 p2l p2h) (le16 p3l p3h) sum rest
      · cases h
    · cases h

/-- The tests before CMD_WRITE are what `wf` asks of it (R114). -/
theorem classifyCommand_encodedAt (addr dl dh : Byte) (rest : List Byte) :
    EncodedAt .cmd5 (cmdHeader0 :: cmdHeader1 :: addr :: dl :: dh :: rest) (classifyCommand addr dl dh) rest := by
  unfold classifyCommand
  split_ifs with hunlock hsave hread
  · obtain ⟨rfl, rfl, rfl⟩ := hunlock
    exact ⟨rfl, rfl, rfl⟩
  · obtain ⟨rfl, rfl, rfl⟩ := hsave
    exact ⟨rfl, rfl, rfl⟩
  · obtain ⟨rfl, rfl⟩ := hread
    exact ⟨rfl, rfl, by simp [encode, writeBytes]⟩
  · have hplain : plainWriteOk addr (le16 dl dh) := by
      rw [plainWriteOk_iff, lowByte_le16, highByte_le16]
      exact ⟨hunlock, hsave, hread⟩
    exact ⟨decide_eq_true hplain, rfl, by simp [encode, writeBytes]⟩

theorem decodeCommand_encodedAt {bytes rest : List Byte} {i : Instr} (h : decodeCommand bytes = .ok (i, rest)) :
    EncodedAt .cmd5 bytes i rest := by
  unfold decodeCommand at h
  split at h
  · split at h
    · next hheader =>
      obtain ⟨rfl, rfl⟩ := hheader
      split at h
      · cases h
        exact classifyCommand_encodedAt _ _ _ rest
      · cases h
    · cases h
  · cases h

/-- Every decoder reads only what the encoder writes. -/
theorem decode_encodedAt {f : Format} {bytes rest : List Byte} {i : Instr} (h : decode f bytes = .ok (i, rest)) :
    EncodedAt f bytes i rest := by
  cases f with
  | hostcmd => exact decodeHost_encodedAt h
  | frame11 => exact decodeFrame_encodedAt h
  | cmd5 => exact decodeCommand_encodedAt h

/-! ### Reserved operation bytes (R102) -/

theorem byteOperand_ne_reserved (mk : Byte → Instr) (bytes : List Byte) (op : Byte) :
    byteOperand mk bytes ≠ .error (.reservedOperation op) := by
  unfold byteOperand
  split <;> nofun

theorem wordOperand_ne_reserved (mk : Word → Instr) (bytes : List Byte) (op : Byte) :
    wordOperand mk bytes ≠ .error (.reservedOperation op) := by
  unfold wordOperand
  split <;> nofun

theorem createOperands_ne_reserved (bytes : List Byte) (op : Byte) :
    createOperands bytes ≠ .error (.reservedOperation op) := by
  cases bytes with
  | nil => nofun
  | cons tp bytes => exact wordOperand_ne_reserved (.create tp) bytes op

theorem feedOperands_ne_reserved (bytes : List Byte) (op : Byte) :
    feedOperands bytes ≠ .error (.reservedOperation op) := by
  unfold feedOperands
  split
  · dsimp only
    split <;> nofun
  · nofun

/-- A reserved byte is none of the table's twenty, so it falls to the last row of the decoder. -/
theorem decodeHost_of_reservedOperation {op : Byte} (h : reservedOperation op) (rest : List Byte) :
    decodeHost (op :: rest) = .error (.reservedOperation op) := by
  simp only [decodeHost]
  split
  case h_21 => rfl
  all_goals omega

/-- The name is given in the last row of the decoder alone, where the byte is none of the table's twenty. -/
theorem reservedOperation_of_decodeHost {op b : Byte} {rest : List Byte}
    (h : decodeHost (op :: rest) = .error (.reservedOperation b)) : reservedOperation op := by
  simp only [decodeHost] at h
  split at h
  case h_21 =>
    simp only [imp_false] at *
    unfold reservedOperation
    omega
  all_goals
    simp [noOperand, byteOperand_ne_reserved, wordOperand_ne_reserved, createOperands_ne_reserved,
      feedOperands_ne_reserved] at h

theorem State.fetchHost_of_reservedOperation {s : State} {op : Byte} {rest : List Byte} (hhost : s.hostIn = op :: rest)
    (h : reservedOperation op) : s.fetchHost = .settled ({ s with hostIn := rest }.answered codeParam) := by
  simp [State.fetchHost, hhost, decodeHost_of_reservedOperation h, State.answer_eq_answered]

/-! ### Command frames as bytes, and the command rows -/

/-- The read request goes out with the register address in DL and zero in DH (R98). -/
theorem readRequestFrame_eq (addr : Byte) : readRequestFrame addr = ⟨0xFF, 0xAA, 0x27, addr, 0x00⟩ := by
  simp [readRequestFrame, writeFrame, cmdHeader0, cmdHeader1, readCommand]

theorem CmdFrame.eq_of_bytes_eq_append {c d : CmdFrame} {rest : List Byte} (h : c.bytes = d.bytes ++ rest) : c = d := by
  cases c
  cases d
  simp_all [CmdFrame.bytes]

/-- A command row transmits the frame of the bytes that encode it (log 8). -/
theorem exec_eq_transmit_of_bytes {i : Instr} {c : CmdFrame} {rest : List Byte} (hformat : i.format = .cmd5)
    (h : c.bytes = encode i ++ rest) (s : State) : exec i s = .next (s.transmit c) := by
  obtain ⟨d, hbytes, hexec⟩ : ∃ d : CmdFrame, d.bytes = encode i ∧ exec i s = .next (s.transmit d) := by
    cases i with
    | cmdUnlock | cmdSave | cmdReadReq | cmdWrite => exact ⟨_, rfl, rfl⟩
    | _ => cases hformat
  rw [CmdFrame.eq_of_bytes_eq_append (h.trans (congrArg (· ++ rest) hbytes.symm)), hexec]

/-! ### The sequencer's turn -/

/-- Whatever row the frame of the enabled step decodes to, and where it decodes to none, that frame goes out as it stands. -/
theorem step_of_sequencerFrame {s : State} {c : CmdFrame} (hagent : s.nextTurn.agent = .sequencer)
    (hframe : s.beginTurn.sequencerFrame = some c) :
    step s = .next ((s.beginTurn.transmit c).sequencerAdvance s.beginTurn.nextTxAnswer) := by
  cases hdecode : decodeCommand c.bytes with
  | error e =>
    exact step_of_fetch_settled (by simp [hagent, State.fetch, State.fetchSequencer, hframe, hdecode])
  | ok read =>
    obtain ⟨i, rest⟩ := read
    obtain ⟨-, hformat, hbytes⟩ := decodeCommand_encodedAt hdecode
    simp [step, hagent, State.fetch, State.fetchSequencer, hframe, hdecode, State.retire,
      exec_eq_transmit_of_bytes hformat hbytes]

theorem step_of_no_sequencerFrame {s : State} (hagent : s.nextTurn.agent = .sequencer)
    (hframe : s.beginTurn.sequencerFrame = none) : step s = .next s.beginTurn.sequencerFinish :=
  step_of_fetch_settled (by simp [hagent, State.fetch, State.fetchSequencer, hframe])

theorem State.sequencerFrame_cases {s : State} {c : CmdFrame} (h : s.sequencerFrame = some c) :
    s.cePhase = .waitUnlock ∧ c = s.ceFrame ∨ s.cePhase = .waitWrite ∧ c = saveFrame := by
  unfold State.sequencerFrame at h
  split at h
  · split at h
    · next hphase => cases h; exact .inl ⟨hphase, rfl⟩
    · next hphase => cases h; exact .inr ⟨hphase, rfl⟩
    · cases h
    · cases h
  · cases h

/-! ### What goes out on TX -/

/-- From `s` to `t` outputs are appended, and every transmit request among them carries `timeout` and an allowed frame. -/
def Sends (timeout : Word) (allowed : CmdFrame → Prop) (s t : State) : Prop :=
  ∃ new, t.out = s.out ++ new ∧ ∀ c w answer, .tx c w answer ∈ new → w = timeout ∧ allowed c

namespace Sends
variable {timeout : Word} {allowed : CmdFrame → Prop} {s t u : State}

theorem of_noTx {new : List Output} (h : t.out = s.out ++ new) (hnew : ∀ c w answer, .tx c w answer ∉ new) :
    Sends timeout allowed s t :=
  ⟨new, h, fun c w answer hmem => absurd hmem (hnew c w answer)⟩

theorem of_out_eq (h : t.out = s.out) : Sends timeout allowed s t :=
  of_noTx (new := []) (by rw [h, List.append_nil]) (by simp)

theorem of_result {code : Word} (h : t.out = s.out ++ [.result code]) : Sends timeout allowed s t :=
  of_noTx h (by simp)

theorem sent {c : CmdFrame} {more : List Output} (htimeout : s.respTimeout = timeout) (hc : allowed c)
    (hmore : ∀ c w answer, .tx c w answer ∉ more) : Sends timeout allowed s (s.sent c more) := by
  refine ⟨_, rfl, fun d w answer hmem => ?_⟩
  rcases List.mem_cons.1 hmem with heq | hmem
  · cases heq
    exact ⟨htimeout, hc⟩
  · exact absurd hmem (hmore d w answer)

theorem trans (h : Sends timeout allowed s t) (k : Sends timeout allowed t u) : Sends timeout allowed s u := by
  obtain ⟨new, hout, hnew⟩ := h
  obtain ⟨more, kout, hmore⟩ := k
  refine ⟨new ++ more, by rw [kout, hout, List.append_assoc], fun c w answer hmem => ?_⟩
  exact (List.mem_append.1 hmem).elim (hnew c w answer) (hmore c w answer)

theorem mono {more : CmdFrame → Prop} (h : Sends timeout allowed s t) (himp : ∀ c, allowed c → more c) :
    Sends timeout more s t := by
  obtain ⟨new, hout, hnew⟩ := h
  exact ⟨new, hout, fun c w answer hmem => (hnew c w answer hmem).imp_right (himp c)⟩

end Sends

/-- The frames that an operation of HOST puts on TX: an issue step's unlock frame (R190) and READ_REG's request (R205). -/
def IssuedFrame (c : CmdFrame) : Prop := c = unlockBytes ∨ ∃ r, c = ⟨0xFF, 0xAA, 0x27, r, 0x00⟩

theorem State.configure_sends (s : State) (op : ConfigOp) (reg : Byte) (data : Half) (ok : Bool) :
    Sends s.respTimeout IssuedFrame s (s.configure op reg data ok) := by
  rcases s.configure_cases op reg data ok with ⟨-, h⟩ | ⟨-, -, -, h⟩ | ⟨-, -, -, -, h⟩ | ⟨-, -, -, -, h⟩ <;> rw [h]
  · exact .of_result rfl
  · exact .of_result rfl
  · exact .sent rfl (.inl rfl) (by simp)
  · exact (Sends.sent rfl (.inl rfl) (by simp)).trans (.of_out_eq rfl)

theorem State.requestRead_sends (s : State) (addr : Word) : Sends s.respTimeout IssuedFrame s (s.requestRead addr) := by
  rcases s.requestRead_cases addr with ⟨-, h⟩ | ⟨-, -, -, h⟩ | ⟨-, -, -, h⟩ <;> rw [h]
  · exact .of_result rfl
  · exact .of_result rfl
  · exact .sent rfl (.inr ⟨_, readRequestFrame_eq _⟩) (by simp)

section
variable {timeout : Word} {allowed : CmdFrame → Prop}

theorem State.feed_sends (s : State) (data : List Byte) : Sends timeout allowed s (s.feed data) := by
  rcases s.feed_cases data with ⟨-, h⟩ | ⟨-, -, h⟩ | ⟨-, -, h⟩ <;> rw [h]
  · exact .of_result rfl
  · exact .of_result rfl
  · exact .trans (.of_out_eq (State.feedBytes_keeps data s).out) (.of_result rfl)

theorem State.recover_sends (s : State) : Sends timeout allowed s s.recover := by
  rw [State.recover_eq]
  refine .of_noTx rfl ?_
  cases s.nextReinitAnswer <;> simp [recoveryOutputs]

theorem State.sequencerAdvance_sends (s : State) (answer : TxAnswer) :
    Sends timeout allowed s (s.sequencerAdvance answer) := by
  cases answer with
  | ok => exact .of_out_eq rfl
  | fail => exact .of_noTx (State.complete_out s _) (by simp)

theorem State.sequencerFinish_sends (s : State) : Sends timeout allowed s s.sequencerFinish := by
  unfold State.sequencerFinish
  split
  · exact .of_noTx (State.complete_out s _) (by simp)
  · exact .of_out_eq rfl

theorem State.fetch_settled_sends {s t : State} {agent : Agent} (hagent : agent ≠ .sequencer)
    (h : s.fetch agent = .settled t) : Sends timeout allowed s t := by
  cases agent with
  | host =>
    simp only [State.fetch, State.fetchHost] at h
    split at h <;> cases h
    · exact .of_result rfl
    · exact .of_out_eq rfl
  | receive =>
    simp only [State.fetch, State.fetchReceived] at h
    split at h
    · cases h
    · split at h <;> cases h
      exact .of_out_eq rfl
  | sequencer => exact absurd rfl hagent

end

/-- Fetching puts nothing out, and HOST and the receive context run no command row. -/
theorem State.fetch_run_quiet {s before : State} {agent : Agent} {i : Instr} (hagent : agent ≠ .sequencer)
    (h : s.fetch agent = .run i before) :
    i.format ≠ .cmd5 ∧ before.respTimeout = s.respTimeout ∧ before.out = s.out := by
  cases agent with
  | host =>
    simp only [State.fetch, State.fetchHost] at h
    split at h <;> cases h
    next hdecode =>
    exact ⟨by rw [(decodeHost_encodedAt hdecode).format]; nofun, rfl, rfl⟩
  | receive =>
    simp only [State.fetch, State.fetchReceived] at h
    split at h
    · next hdecode =>
      cases h
      exact ⟨by rw [(decodeFrame_encodedAt hdecode).format]; nofun, rfl, rfl⟩
    · split at h <;> cases h
      exact ⟨nofun, rfl, rfl⟩
  | sequencer => exact absurd rfl hagent

/-- Every instruction but a command row transmits an issued frame or nothing. -/
theorem exec_sends {i : Instr} {s t : State} (hi : i.format ≠ .cmd5) (h : exec i s = .next t) :
    Sends s.respTimeout IssuedFrame s t := by
  cases i with
  | create | enable | wdtInit | wdtEnable =>
    cases h
    repeat' split
    all_goals exact .of_result rfl
  | wdtCheck =>
    cases h
    split
    · exact State.recover_sends s
    · exact .of_out_eq rfl
  | get | status => cases h; exact .of_noTx rfl (by simp)
  | feed | frameAcc | frameGyro | frameAngle | frameMag | frameOther => cases h; exact State.feed_sends s _
  | setBaud | setRate | setContent | setBandwidth => cases h; exact State.configure_sends s _ _ _ _
  | accCalStart | accCalStop | magCalStart | magCalStop | manualCalEnter | manualCalExit | zeroYaw =>
    cases h; exact State.configure_sends s _ _ _ _
  | readReg addr => cases h; exact State.requestRead_sends s addr
  | cmdUnlock | cmdSave | cmdReadReq | cmdWrite => exact absurd rfl hi

/-- The frames that a step from `s` may put on TX (R109). -/
def EgressFrame (s : State) (c : CmdFrame) : Prop :=
  c = unlockBytes ∨ c = saveBytes ∨ (∃ r, c = ⟨0xFF, 0xAA, 0x27, r, 0x00⟩) ∨ s.cePhase = .waitUnlock ∧ c = s.ceFrame

theorem IssuedFrame.egressFrame {c : CmdFrame} (h : IssuedFrame c) (s : State) : EgressFrame s c :=
  h.imp_right fun hread => .inr (.inl hread)

theorem State.egressFrame_of_sequencerFrame {s : State} {c : CmdFrame} (h : s.sequencerFrame = some c) :
    EgressFrame s c := by
  rcases State.sequencerFrame_cases h with hwrite | ⟨-, rfl⟩
  · exact .inr (.inr (.inr hwrite))
  · exact .inr (.inl rfl)

/-- The frame of the sequencer's enabled step, an issued frame of HOST's operation, or nothing. -/
theorem step_sends {s t : State} (h : step s = .next t) : Sends s.respTimeout (EgressFrame s) s t := by
  have hturn : Sends s.respTimeout (EgressFrame s) s s.beginTurn := .of_out_eq s.beginTurn_out
  refine hturn.trans ?_
  by_cases hagent : s.nextTurn.agent = .sequencer
  · cases hframe : s.beginTurn.sequencerFrame with
    | none =>
      cases h.symm.trans (step_of_no_sequencerFrame hagent hframe)
      exact State.sequencerFinish_sends _
    | some c =>
      cases h.symm.trans (step_of_sequencerFrame hagent hframe)
      have hc : EgressFrame s.beginTurn c := State.egressFrame_of_sequencerFrame hframe
      exact (Sends.sent rfl hc (by simp)).trans (State.sequencerAdvance_sends _ _)
  · rcases step_cases h with hfetch | ⟨i, before, after, hfetch, hexec, rfl⟩
    · exact State.fetch_settled_sends hagent hfetch
    · obtain ⟨hformat, htimeout, hout⟩ := State.fetch_run_quiet hagent hfetch
      rw [State.retire_of_ne_sequencer hagent]
      have hissued := (exec_sends hformat hexec).mono fun c hc => hc.egressFrame s
      rw [htimeout] at hissued
      exact .trans (.of_out_eq hout) hissued

/-! ### The obligations -/

/-- Settles O1, format by format: each decoder's row tests and operand readers undo the encoder. -/
theorem decodeOfEncodeIsTheInstruction : Obligations.DecodeOfEncodeIsTheInstruction := by
  intro i rest hwf
  cases hformat : i.format with
  | hostcmd => exact decodeHost_encode hwf hformat rest
  | frame11 => exact decodeFrame_encode hwf hformat rest
  | cmd5 => exact decodeCommand_encode hwf hformat rest

/-- Settles O2: each decoder reads only what the encoder writes, and `wf` names the row that R114's order leaves. -/
theorem decodedBytesAreTheEncoding : Obligations.DecodedBytesAreTheEncoding := by
  intro f bytes i rest h
  obtain ⟨hwf, hformat, hbytes⟩ := decode_encodedAt h
  exact ⟨hwf, hformat, hbytes⟩

/-- Settles O3: the bytes outside R100's table meet no row, and a row's operands are at worst incomplete. -/
theorem reservedOperationBytesAreRejectedByName : Obligations.ReservedOperationBytesAreRejectedByName := fun _ rest =>
  ⟨reservedOperation_of_decodeHost, fun h => decodeHost_of_reservedOperation h rest⟩

/-- Settles O10: ENV's turn leaves HOST's bytes as they are, and a reserved one settles the turn. -/
theorem reservedOperationReturnsParameterError : Obligations.ReservedOperationReturnsParameterError := by
  intro s op rest hagent hhost hop
  exact step_of_fetch_settled (by rw [hagent]; exact State.fetchHost_of_reservedOperation hhost hop)

/-- Settles O18: every `Tx` of the step is an egress frame, and the invariant says which write frame a pending CE_FRAME is. -/
theorem egressIsClosed : Obligations.EgressIsClosed := by
  intro s t new c timeout answer hstep hnew hmem
  obtain ⟨sent, hsent, hallowed⟩ := step_sends hstep
  obtain rfl : sent = new := List.append_cancel_left (hsent.symm.trans hnew)
  obtain ⟨htimeout, hframe⟩ := hallowed c timeout answer hmem
  refine ⟨htimeout, ?_⟩
  rcases hframe with hunlock | hsave | hread | ⟨hphase, hwrite⟩
  · exact .inl hunlock
  · exact .inr (.inl hsave)
  · exact .inr (.inr (.inl hread))
  · have hpending : s.cePhase ≠ .idle := by simp [hphase]
    exact .inr (.inr (.inr ⟨hphase, hwrite, fun hs => hwrite ▸ hs.pendingFrame hpending⟩))

/-- Settles O4, by evaluating the decoders on the six words. -/
theorem specWordsDecode : Obligations.SpecWordsDecode :=
  ⟨rfl, rfl, rfl, rfl, rfl, rfl⟩

/-- Settles O37: each row's meaning feeds the bytes its encoding is. -/
theorem frameRunsAsTheFeedOfItsBytes : Obligations.FrameRunsAsTheFeedOfItsBytes := by
  intro i s hformat
  cases i with
  | frameAcc | frameGyro | frameAngle | frameMag | frameOther => rfl
  | _ => cases hformat

/-- Settles O54: the frame each row transmits, byte for byte; a write's data is split into its low and high byte. -/
theorem commandRowsTransmitTheirBytes : Obligations.CommandRowsTransmitTheirBytes := by
  intro s addr data
  have hread : exec (.cmdReadReq addr) s = .next (s.sent ⟨0xFF, 0xAA, 0x27, addr, 0x00⟩ []) := by
    rw [← readRequestFrame_eq addr]; rfl
  exact ⟨rfl, rfl, hread, lowByte data, highByte data, toNat_eq_highByte_lowByte data, rfl⟩

end Sys2Proof.Machine
end

/-! ## The family of 40_frame_assembler.md: byte steps, the checksum validator, whole frames, and FEED (R130 to R144) -/

section
namespace Sys2Proof.Machine

/-! ### The frame buffer after a write -/

theorem getD_setIfInBounds_of_ne (fb : Vector Byte 11) {j k : Nat} (h : j ≠ k) (b : Byte) :
    (fb.setIfInBounds j b).getD k 0 = fb.getD k 0 := by
  simp [Vector.getD, h]

theorem getD_setIfInBounds_self (fb : Vector Byte 11) {k : Nat} (h : k < 11) (b : Byte) :
    (fb.setIfInBounds k b).getD k 0 = b := by
  simp [Vector.getD, h]

/-- A frame's checksum byte lies behind its four fields (30_encoding.md R91, R94). -/
theorem frameField_setChecksum (fb : Vector Byte 11) {k : Nat} (h : k < 4) (b : Byte) :
    frameField (fb.setIfInBounds 10 b) k = frameField fb k := by
  rw [frameField, getD_setIfInBounds_of_ne fb (by omega), getD_setIfInBounds_of_ne fb (by omega), frameField]

theorem frameRaw_setChecksum (fb : Vector Byte 11) {k : Nat} (h : k < 4) (b : Byte) :
    frameRaw (fb.setIfInBounds 10 b) k = frameRaw fb k := by
  rw [frameRaw, frameField_setChecksum fb h, frameRaw]

theorem frameField_lt (fb : Vector Byte 11) (k : Nat) : frameField fb k < 65536 := by
  have hlow := (fb.getD (2 + 2 * k) 0).isLt
  have hhigh := (fb.getD (3 + 2 * k) 0).isLt
  unfold frameField
  omega

theorem State.field_eq_frameField (s : State) (k : Nat) : s.field k = BitVec.ofNat 16 (frameField s.fb k) := rfl

/-- Two's complement, written out (30_encoding.md R94). -/
theorem State.raw_eq_frameRaw (s : State) (k : Nat) : s.raw k = frameRaw s.fb k := by
  have hlt := frameField_lt s.fb k
  rw [State.raw, State.field_eq_frameField, BitVec.toInt_eq_toNat_cond, BitVec.toNat_ofNat, Nat.mod_eq_of_lt hlt, frameRaw]
  split <;> split <;> omega

/-! ### The byte step, by frame state (R131) -/

theorem State.byteStep_of_idle {s : State} (h : s.fstate = .idle) (b : Byte) : s.byteStep b = s.idleStep b := by
  simp [State.byteStep, h]

theorem State.byteStep_of_terminal {s : State} (h : s.fstate = .ready ∨ s.fstate = .error) (b : Byte) :
    s.byteStep b = s.resetFrame.idleStep b := by
  rcases h with h | h <;> simp [State.byteStep, h, State.replayStep]

theorem State.byteStep_of_receiving {s : State} (h : s.fstate = .receiving) (hlow : 1 ≤ s.cursor.toNat)
    (hhigh : s.cursor.toNat ≤ 10) (b : Byte) : s.byteStep b = s.recvStep b := by
  simp [State.byteStep, h, hlow, hhigh]

theorem State.byteStep_of_overflow {s : State} (h : s.fstate = .receiving)
    (hcursor : s.cursor.toNat = 0 ∨ 10 < s.cursor.toNat) (b : Byte) : s.byteStep b = s.resetFrame.idleStep b := by
  have hout : ¬(1 ≤ s.cursor.toNat ∧ s.cursor.toNat ≤ 10) := by omega
  simp only [State.byteStep, h, if_neg hout, State.overflowStep]

theorem State.resetFrame_byteStep (s : State) (b : Byte) : s.resetFrame.byteStep b = s.resetFrame.idleStep b :=
  State.byteStep_of_idle rfl b

/-- The state with a frame begun: what the header scan makes of a header byte (R132). -/
def State.startFrame (s : State) : State :=
  { s with fb := s.fb.setIfInBounds 0 frameHeader, cursor := 1, fstate := .receiving }

theorem State.idleStep_header (s : State) : s.idleStep frameHeader = s.startFrame := if_pos rfl

theorem State.idleStep_of_ne_header (s : State) {b : Byte} (h : b ≠ frameHeader) : s.idleStep b = s := if_neg h

/-- Outside a frame a header byte starts one: the header scan overwrites what a terminal state's reset would (R132, R138). -/
theorem State.byteStep_header {s : State} (h : s.fstate ≠ .receiving) : s.byteStep frameHeader = s.startFrame := by
  cases hf : s.fstate with
  | idle => rw [State.byteStep_of_idle hf, State.idleStep_header]
  | receiving => exact absurd hf h
  | ready => rw [State.byteStep_of_terminal (.inl hf), State.idleStep_header]; rfl
  | error => rw [State.byteStep_of_terminal (.inr hf), State.idleStep_header]; rfl

/-- Before the eleventh byte a byte is appended and nothing more (R133). -/
theorem State.byteStep_of_open {s : State} (h : s.fstate = .receiving) (hlow : 1 ≤ s.cursor.toNat)
    (hhigh : s.cursor.toNat ≤ 9) (b : Byte) : s.byteStep b = s.appendByte b := by
  have hopen : (s.appendByte b).cursor ≠ 11 := by
    rw [State.appendByte_cursor]
    bv_omega
  rw [State.byteStep_of_receiving h hlow (by omega), State.recvStep, if_neg hopen]

/-- The eleventh byte is appended and the frame goes to the checksum validator (R133, R134). -/
theorem State.byteStep_eleventh {s : State} (h : s.fstate = .receiving) (hcursor : s.cursor = 10) (b : Byte) :
    s.byteStep b = { s with fb := s.fb.setIfInBounds 10 b, cursor := 11 }.completeFrame := by
  have hlast : s.cursor.toNat = 10 := by rw [hcursor]; rfl
  have happend : s.appendByte b = { s with fb := s.fb.setIfInBounds 10 b, cursor := 11 } := by
    rw [State.appendByte, hlast, hcursor]
    rfl
  rw [State.byteStep_of_receiving h (by omega) (by omega), State.recvStep, happend]
  exact if_pos rfl

/-! ### The checksum validator and DECODE -/

theorem checksumValid_iff (fb : Vector Byte 11) : checksumValid fb = true ↔ checksum fb = fb.getD 10 0 := decide_eq_true_iff

theorem State.completeFrame_of_mismatch {s : State} (h : checksum s.fb ≠ s.fb.getD 10 0) :
    s.completeFrame = { s with fstate := .error } :=
  if_neg (mt (checksumValid_iff s.fb).1 h)

theorem State.completeFrame_of_match {s : State} (h : checksum s.fb = s.fb.getD 10 0) :
    s.completeFrame = { s with fstate := .ready, wdLast := s.now }.decodePacket :=
  if_pos ((checksumValid_iff s.fb).2 h)

section
variable {s : State}

theorem State.decodePacket_of_acc (h : s.fb.getD 1 0 = 0x51) : s.decodePacket = s.decodeAcc.stamp := by
  simp only [State.decodePacket, h]
  rfl

theorem State.decodePacket_of_gyro (h : s.fb.getD 1 0 = 0x52) : s.decodePacket = s.decodeGyro.stamp := by
  simp only [State.decodePacket, h]
  rfl

theorem State.decodePacket_of_angle (h : s.fb.getD 1 0 = 0x53) : s.decodePacket = s.decodeAngle.stamp := by
  simp only [State.decodePacket, h]
  rfl

theorem State.decodePacket_of_mag (h : s.fb.getD 1 0 = 0x54) : s.decodePacket = s.decodeMag.stamp := by
  simp only [State.decodePacket, h]
  rfl

theorem State.decodePacket_of_other (h : otherTagOk (s.fb.getD 1 0)) : s.decodePacket = s := by
  obtain ⟨hacc, hgyro, hangle, hmag⟩ := h
  simp only [State.decodePacket, tagAcc, tagGyro, tagAngle, tagMag, hacc, hgyro, hangle, hmag, if_false, State.decodeOther]

end

theorem otherTagOk_of_outside {tag : Byte} (h : tag.toNat < 0x51 ∨ 0x54 < tag.toNat) : otherTagOk tag := by
  refine ⟨?_, ?_, ?_, ?_⟩ <;> rintro rfl <;> simp at h

/-! ### The eleventh byte's two outcomes -/

section
variable {s : State} {b : Byte} (hreceiving : s.fstate = .receiving) (hcursor : s.cursor = 10)
include hreceiving hcursor

theorem State.byteStep_of_mismatch (hsum : checksum (s.fb.setIfInBounds 10 b) ≠ b) :
    s.byteStep b = { s with fb := s.fb.setIfInBounds 10 b, cursor := 11, fstate := .error } := by
  rw [State.byteStep_eleventh hreceiving hcursor, State.completeFrame_of_mismatch]
  rwa [getD_setIfInBounds_self s.fb (by omega)]

theorem State.byteStep_of_match (hsum : checksum (s.fb.setIfInBounds 10 b) = b) :
    s.byteStep b =
      { s with fb := s.fb.setIfInBounds 10 b, cursor := 11, fstate := .ready, wdLast := s.now }.decodePacket := by
  rw [State.byteStep_eleventh hreceiving hcursor, State.completeFrame_of_match]
  · rfl
  · rwa [getD_setIfInBounds_self s.fb (by omega)]

end

/-! ### A whole frame, byte by byte -/

/-- The buffer with bytes written one after another from an index on. -/
def fillFrom (fb : Vector Byte 11) (k : Nat) (data : List Byte) : Vector Byte 11 :=
  match data with
  | [] => fb
  | b :: data => fillFrom (fb.setIfInBounds k b) (k + 1) data

theorem fillFrom_append (more : List Byte) (data : List Byte) : ∀ (fb : Vector Byte 11) (k : Nat),
    fillFrom fb k (data ++ more) = fillFrom (fillFrom fb k data) (k + data.length) more := by
  induction data with
  | nil => exact fun _ _ => rfl
  | cons b data ih =>
    intro fb k
    rw [List.cons_append, fillFrom, ih, fillFrom, List.length_cons, Nat.add_right_comm, Nat.add_assoc]

/-- Eleven bytes leave nothing of the buffer before. -/
theorem fillFrom_frameBytes (fb : Vector Byte 11) (tag : Byte) (f0 f1 f2 f3 : Half) (sum : Byte) :
    fillFrom fb 0 (frameBytes tag f0 f1 f2 f3 sum) = frameVector tag f0 f1 f2 f3 sum := by
  ext i hi
  interval_cases i <;> simp [fillFrom, frameBytes, frameVector, frameHeader]

/-- Inside a frame, bytes that do not complete it only fill the buffer (R133). -/
theorem State.feedBytes_of_open (data : List Byte) : ∀ {s : State}, s.fstate = .receiving → 1 ≤ s.cursor.toNat →
    s.cursor.toNat + data.length ≤ 10 →
    s.feedBytes data =
      { s with fb := fillFrom s.fb s.cursor.toNat data, cursor := s.cursor + BitVec.ofNat 4 data.length } := by
  induction data with
  | nil => intro s _ _ _; simp [State.feedBytes, fillFrom]
  | cons b data ih =>
    intro s hreceiving hlow hroom
    rw [List.length_cons] at hroom
    have hcursor : (s.appendByte b).cursor.toNat = s.cursor.toNat + 1 := by
      rw [State.appendByte_cursor]
      bv_omega
    have hlength : s.cursor + 1 + BitVec.ofNat 4 data.length = s.cursor + BitVec.ofNat 4 (data.length + 1) := by
      bv_omega
    calc s.feedBytes (b :: data)
        = (s.appendByte b).feedBytes data := by
          rw [← State.byteStep_of_open hreceiving hlow (by omega) b]; rfl
      _ = _ := ih hreceiving (by omega) (by omega)
      _ = _ := by rw [hcursor, State.appendByte_cursor, hlength]; rfl

/-- From outside a frame, a header and ten bytes more fill the buffer and go to the checksum validator (R132 to R134). -/
theorem State.feedBytes_wholeFrame {s : State} (h : s.fstate ≠ .receiving) {payload : List Byte}
    (hlength : payload.length = 9) (sum : Byte) :
    s.feedBytes (frameHeader :: (payload ++ [sum])) =
      { s with
        fb := fillFrom s.fb 0 (frameHeader :: (payload ++ [sum])), cursor := 11, fstate := .receiving }.completeFrame := by
  have hpayload : s.startFrame.feedBytes payload =
      { s.startFrame with fb := fillFrom s.startFrame.fb 1 payload, cursor := 10 } := by
    rw [State.feedBytes_of_open payload rfl le_rfl (by rw [hlength]; rfl), hlength]
    rfl
  calc s.feedBytes (frameHeader :: (payload ++ [sum]))
      = s.startFrame.feedBytes (payload ++ [sum]) := by
        rw [← State.byteStep_header h]; rfl
    _ = { s.startFrame with fb := fillFrom s.startFrame.fb 1 payload, cursor := 10 }.byteStep sum := by
        rw [State.feedBytes_append, hpayload]; rfl
    _ = _ := by rw [State.byteStep_eleventh rfl rfl, fillFrom, fillFrom_append, hlength]; rfl

/-- From outside a frame, the bytes of a frame leave its buffer to the checksum validator, whatever the tag (R91). -/
theorem State.feedBytes_frameBytes {s : State} (h : s.fstate ≠ .receiving) (tag : Byte) (f0 f1 f2 f3 : Half) (sum : Byte) :
    s.feedBytes (frameBytes tag f0 f1 f2 f3 sum) =
      { s with fb := frameVector tag f0 f1 f2 f3 sum, cursor := 11, fstate := .receiving }.completeFrame := by
  rw [← fillFrom_frameBytes s.fb]
  exact State.feedBytes_wholeFrame h
    (payload := [tag, lowByte f0, highByte f0, lowByte f1, highByte f1, lowByte f2, highByte f2, lowByte f3, highByte f3])
    rfl sum

/-- Addition of bytes is addition modulo 256 (30_encoding.md R92). -/
theorem checksum_frameVector (tag : Byte) (f0 f1 f2 f3 : Half) (sum : Byte) :
    checksum (frameVector tag f0 f1 f2 f3 sum) = frameSum tag f0 f1 f2 f3 := by
  simp [checksum, frameVector, frameSum, BitVec.ofNat_add]
  ac_rfl

/-! ### FEED and the FRAME11 rows -/

theorem exec_feed (data : List Byte) (s : State) : exec (.feed data) s = .next (s.feed data) := rfl

theorem State.feed_of_empty {s : State} (hlive : s.live = true) : s.feed [] = s.answered codeParam := by
  simpa [hlive] using s.feed_cases []

/-- The row of a frame's tag runs as the FEED of the frame's bytes (R91, R111; log 7). -/
theorem exec_classifyFrame (tag : Byte) (f0 f1 f2 f3 : Half) (sum : Byte) (s : State) :
    exec (classifyFrame tag f0 f1 f2 f3 sum) s = .next (s.feed (frameBytes tag f0 f1 f2 f3 sum)) := by
  unfold classifyFrame
  split_ifs with hacc hgyro hangle hmag
  · rw [hacc]; rfl
  · rw [hgyro]; rfl
  · rw [hangle]; rfl
  · rw [hmag]; rfl
  · rfl

/-- Whichever way FEED ends, it answers once, in a state that keeps everything outside ingestion. -/
theorem State.feed_keeps (s : State) (data : List Byte) :
    ∃ u code, KeepsOutsideIngestion s u ∧ s.feed data = u.answered code := by
  rcases s.feed_cases data with ⟨-, hfeed⟩ | ⟨-, -, hfeed⟩ | ⟨-, -, hfeed⟩
  · exact ⟨s, _, .refl s, hfeed⟩
  · exact ⟨s, _, .refl s, hfeed⟩
  · exact ⟨_, _, State.feedBytes_keeps data s, hfeed⟩

/-! ### The obligations -/

/-- Settles O24: a result on HOST changes the output history alone, and byte steps keep everything outside ingestion. -/
theorem feedWritesNothingElse : Obligations.FeedWritesNothingElse := by
  intro data s t hexec
  obtain ⟨u, code, hkeeps, hfeed⟩ := s.feed_keeps data
  rw [exec_feed, hfeed] at hexec
  cases hexec
  exact ⟨hkeeps.lifecycle, hkeeps.sequencer, hkeeps.wdTimeout, hkeeps.wdEnabled, hkeeps.wdCount, hkeeps.tAbs,
    hkeeps.hostIn, hkeeps.rxIn, hkeeps.params, hkeeps.turns, hkeeps.txAnswers, hkeeps.reinitAnswers, code,
    by rw [State.answered, hkeeps.out]⟩

/-- Settles O27: the validator's two outcomes, then DECODE's case by the tag; the checksum byte is in no field. -/
theorem eleventhByteIsTheChecksum : Obligations.EleventhByteIsTheChecksum := by
  intro s b hreceiving hcursor
  have htag : (s.fb.setIfInBounds 10 b).getD 1 0 = s.fb.getD 1 0 := getD_setIfInBounds_of_ne s.fb (by omega) b
  have hraw : ∀ k < 4, frameRaw (s.fb.setIfInBounds 10 b) k = frameRaw s.fb k :=
    fun k hk => frameRaw_setChecksum s.fb hk b
  refine ⟨State.byteStep_of_mismatch hreceiving hcursor, fun hsum => ?general, fun hsum hacc => ?acc, fun hsum hgyro => ?gyro,
    fun hsum hangle => ?angle, fun hsum hmag => ?mag, fun hsum hother => ?other⟩ <;>
    rw [State.byteStep_of_match hreceiving hcursor hsum]
  case general =>
    obtain ⟨-, ⟨hfb, hcur, hfstate⟩, hlast⟩ := State.decodePacket_keeps
      { s with fb := s.fb.setIfInBounds 10 b, cursor := 11, fstate := .ready, wdLast := s.now }
    exact ⟨hfb, hcur, hfstate, hlast⟩
  case acc =>
    rw [State.decodePacket_of_acc (htag.trans hacc)]
    simp only [State.decodeAcc, State.raw_eq_frameRaw, hraw, Nat.reduceLT]
    rfl
  case gyro =>
    rw [State.decodePacket_of_gyro (htag.trans hgyro)]
    simp only [State.decodeGyro, State.raw_eq_frameRaw, hraw, Nat.reduceLT]
    rfl
  case angle =>
    rw [State.decodePacket_of_angle (htag.trans hangle)]
    simp only [State.decodeAngle, State.raw_eq_frameRaw, hraw, State.field_eq_frameField,
      frameField_setChecksum, Nat.reduceLT]
    rfl
  case mag =>
    rw [State.decodePacket_of_mag (htag.trans hmag)]
    simp only [State.decodeMag, State.raw_eq_frameRaw, hraw, Nat.reduceLT]
    rfl
  case other =>
    exact State.decodePacket_of_other (by rw [htag]; exact otherTagOk_of_outside hother)

/-- Settles O36: the row feeds the frame's bytes, and the validator compares the frame's sum with its checksum byte. -/
theorem corruptFrameIsDiscarded : Obligations.CorruptFrameIsDiscarded := by
  intro s tag f0 f1 f2 f3 sum hcreated henabled houtside hsum
  have hlive : s.live = true := s.live_iff.2 ⟨hcreated, henabled⟩
  have hmismatch : checksum (frameVector tag f0 f1 f2 f3 sum) ≠ (frameVector tag f0 f1 f2 f3 sum).getD 10 0 := by
    rw [checksum_frameVector]
    exact hsum.symm
  rw [exec_classifyFrame, State.feed_of_live hlive (by simp [frameBytes]), State.feedBytes_frameBytes houtside,
    State.completeFrame_of_mismatch]
  · rfl
  · exact hmismatch

/-- Settles O23: the three ways FEED ends, by `live` and the bytes. -/
theorem feedFollowsItsRule : Obligations.FeedFollowsItsRule := by
  intro data s
  refine ⟨fun hdead => ?_, fun hcreated henabled hdata => ?_, fun hcreated henabled hdata => ?_⟩
  · have hlive : s.live = false := by rcases hdead with h | h <;> simp [State.live, h]
    rw [exec_feed, State.feed_of_not_live hlive]
    rfl
  · have hlive : s.live = true := s.live_iff.2 ⟨hcreated, henabled⟩
    rw [hdata, exec_feed, State.feed_of_empty hlive]
    rfl
  · have hlive : s.live = true := s.live_iff.2 ⟨hcreated, henabled⟩
    rw [exec_feed, State.feed_of_live hlive hdata]
    rfl

/-- Settles O25: in IDLE a byte step is the header scan. -/
theorem idleScansForTheHeader : Obligations.IdleScansForTheHeader := by
  intro s b hidle
  rw [State.byteStep_of_idle hidle]
  refine ⟨?_, s.idleStep_of_ne_header⟩
  rintro rfl
  exact s.idleStep_header

/-- Settles O26: below the eleventh byte a byte step is the append at the cursor. -/
theorem receivingAppendsEveryByte : Obligations.ReceivingAppendsEveryByte := fun _ b hreceiving hlow hhigh =>
  State.byteStep_of_open hreceiving hlow hhigh b

/-- Settles O28: both sides are the header scan after the frame's reset. -/
theorem terminalStatesReplayTheByte : Obligations.TerminalStatesReplayTheByte := fun s b hterminal =>
  (State.byteStep_of_terminal hterminal b).trans (s.resetFrame_byteStep b).symm

/-- Settles O29: both sides are the header scan after the frame's reset. -/
theorem overflowScansTheByte : Obligations.OverflowScansTheByte := fun s b hreceiving hcursor =>
  (State.byteStep_of_overflow hreceiving hcursor b).trans (s.resetFrame_byteStep b).symm

end Sys2Proof.Machine
end

/-! ## The family of 41_packet_decoder.md: frames decoded, and the conversions to physical units (R160 to R174) -/

section
namespace Sys2Proof.Machine

/-! ### A frame with a good checksum (R134, R136) -/

/-- The state in which DECODE runs: the frame in the buffer, found good, and the watchdog fed (R134, R136). -/
def State.verified (s : State) (tag : Byte) (f0 f1 f2 f3 : Half) : State :=
  { s with
    fb := frameVector tag f0 f1 f2 f3 (frameSum tag f0 f1 f2 f3), cursor := 11, fstate := .ready, wdLast := s.now }

section
variable (s : State) (tag : Byte) (f0 f1 f2 f3 : Half)

theorem State.verified_tag : (s.verified tag f0 f1 f2 f3).fb.getD 1 0 = tag := rfl

theorem State.verified_fields :
    (s.verified tag f0 f1 f2 f3).field 0 = f0 ∧ (s.verified tag f0 f1 f2 f3).field 1 = f1 ∧
      (s.verified tag f0 f1 f2 f3).field 2 = f2 ∧ (s.verified tag f0 f1 f2 f3).field 3 = f3 :=
  ⟨le16_lowByte_highByte f0, le16_lowByte_highByte f1, le16_lowByte_highByte f2, le16_lowByte_highByte f3⟩

/-- In a live block that is not inside a frame, the row of a frame with a good checksum is DECODE of the frame, then `OK`. -/
theorem exec_classifyFrame_of_goodSum (hcreated : s.created = true) (henabled : s.enabled = true)
    (houtside : s.fstate ≠ .receiving) :
    exec (classifyFrame tag f0 f1 f2 f3 (frameSum tag f0 f1 f2 f3)) s =
      .next ((s.verified tag f0 f1 f2 f3).decodePacket.answered codeOk) := by
  have hlive : s.live = true := s.live_iff.2 ⟨hcreated, henabled⟩
  rw [exec_classifyFrame, State.feed_of_live hlive (by simp [frameBytes]), State.feedBytes_frameBytes houtside,
    State.completeFrame_of_match]
  · rfl
  · exact checksum_frameVector tag f0 f1 f2 f3 _

end

/-! ### The obligations on frames -/

/-- Settles O31: the good frame is decoded by DECODE_ACC, which reads its four fields. -/
theorem accelerationFrameIsDecoded : Obligations.AccelerationFrameIsDecoded := by
  intro s f0 f1 f2 f3 hcreated henabled houtside
  refine (exec_classifyFrame_of_goodSum s 0x51 f0 f1 f2 f3 hcreated henabled houtside).trans ?_
  rw [State.decodePacket_of_acc (State.verified_tag ..)]
  simp only [State.decodeAcc, State.raw, State.verified_fields]
  rfl

/-- Settles O32: the good frame is decoded by DECODE_GYRO, which does not read field 3. -/
theorem gyroscopeFrameIsDecoded : Obligations.GyroscopeFrameIsDecoded := by
  intro s f0 f1 f2 f3 hcreated henabled houtside
  refine (exec_classifyFrame_of_goodSum s 0x52 f0 f1 f2 f3 hcreated henabled houtside).trans ?_
  rw [State.decodePacket_of_gyro (State.verified_tag ..)]
  simp only [State.decodeGyro, State.raw, State.verified_fields]
  rfl

/-- Settles O33: the good frame is decoded by DECODE_ANGLE, whose version is field 3 itself, not its signed reading. -/
theorem orientationFrameIsDecoded : Obligations.OrientationFrameIsDecoded := by
  intro s f0 f1 f2 f3 hcreated henabled houtside
  refine (exec_classifyFrame_of_goodSum s 0x53 f0 f1 f2 f3 hcreated henabled houtside).trans ?_
  rw [State.decodePacket_of_angle (State.verified_tag ..)]
  simp only [State.decodeAngle, State.raw, State.verified_fields]
  rfl

/-- Settles O34: the good frame is decoded by DECODE_MAG, which reads its four fields. -/
theorem magneticFrameIsDecoded : Obligations.MagneticFrameIsDecoded := by
  intro s f0 f1 f2 f3 hcreated henabled houtside
  refine (exec_classifyFrame_of_goodSum s 0x54 f0 f1 f2 f3 hcreated henabled houtside).trans ?_
  rw [State.decodePacket_of_mag (State.verified_tag ..)]
  simp only [State.decodeMag, State.raw, State.verified_fields]
  rfl

/-- Settles O35: DECODE leaves the state of a good frame as it is where the tag is none of the four. -/
theorem otherFrameOnlyFeedsTheWatchdog : Obligations.OtherFrameOnlyFeedsTheWatchdog := by
  intro s tag f0 f1 f2 f3 hcreated henabled houtside htag
  have hother : otherTagOk tag := otherTagOk_of_outside htag
  rw [← classifyFrame_of_otherTagOk hother, exec_classifyFrame_of_goodSum s tag f0 f1 f2 f3 hcreated henabled houtside,
    State.decodePacket_of_other (s := s.verified tag f0 f1 f2 f3) hother]
  rfl

/-! ### Rounding, as a relation between a rational and its rounded value (00_scope.md R12) -/

/-- The value of a fraction. -/
def Fraction.toRat (r : Fraction) : ℚ := r.num / r.den

/-- The value of a rounded number. -/
def Rounded.toRat (x : Rounded) : ℚ := (if x.negative then -1 else 1) * (x.significand * 2 ^ x.exponent)

theorem Fraction.add_toRat {a b : Fraction} (ha : 0 < a.den) (hb : 0 < b.den) : (a.add b).toRat = a.toRat + b.toRat := by
  have ha' : (a.den : ℚ) ≠ 0 := by exact_mod_cast ha.ne'
  have hb' : (b.den : ℚ) ≠ 0 := by exact_mod_cast hb.ne'
  simp only [Fraction.toRat, Fraction.add]
  push_cast
  field_simp

theorem Rounded.value_den_pos (x : Rounded) : 0 < x.value.den := Nat.two_pow_pos _

theorem Rounded.value_toRat (x : Rounded) : x.value.toRat = x.toRat := by
  obtain ⟨negative, significand, exponent⟩ := x
  obtain ⟨k, rfl | rfl⟩ := exponent.eq_nat_or_neg <;>
    cases negative <;> simp [Rounded.value, Fraction.toRat, Rounded.toRat, div_eq_mul_inv]

theorem intCast_le_of_lt_add_one {m n : ℤ} (h : (m : ℚ) < n + 1) : (m : ℚ) ≤ n := by
  have hint : m < n + 1 := by exact_mod_cast h
  exact_mod_cast Int.lt_add_one_iff.1 hint

theorem abs_intCast_mul_two_zpow (m k : ℤ) : |(m : ℚ) * 2 ^ k| = (|m| : ℤ) * 2 ^ k := by
  rw [abs_mul, abs_of_pos (by positivity : (0 : ℚ) < 2 ^ k), Int.cast_abs]

theorem abs_sub_mul_of_pos {a b c : ℚ} (hc : 0 < c) : |a - b| * c = |a * c - b * c| := by
  rw [← sub_mul, abs_mul, abs_of_pos hc]

/-- `|v|` in units of `2 ^ e`. -/
def scaled (v : ℚ) (e : ℤ) : ℚ := |v| * 2 ^ (-e)

theorem scaled_mul (v : ℚ) (e : ℤ) : scaled v e * 2 ^ e = |v| := by
  rw [scaled, zpow_neg, inv_mul_cancel_right₀ (by positivity)]

/-- `v` rounded to nearest, ties to even, in a format: with its exponent `v` has the format's number of bits before the point,
or it is the format's least exponent, and its significand is the nearest integer. -/
structure RoundsTo (f : FloatFormat) (v : ℚ) (x : Rounded) : Prop where
  /-- Zero is +0.0. -/
  sign : x.negative = decide (v < 0)
  /-- No unit is smaller than a subnormal's. -/
  least : f.minExp ≤ x.exponent
  /-- At most the format's bits before the point. -/
  below : scaled v x.exponent < 2 ^ f.precision
  /-- At least that many, unless subnormal. -/
  normal : x.exponent = f.minExp ∨ (2 : ℚ) ^ ((f.precision : ℤ) - 1) ≤ scaled v x.exponent
  /-- The nearest integer. -/
  nearest : 2 * |(x.significand : ℚ) - scaled v x.exponent| ≤ 1
  /-- The even one on a tie. -/
  even : 2 * |(x.significand : ℚ) - scaled v x.exponent| = 1 → x.significand % 2 = 0

theorem nearestEven_rat (n : Nat) {d : Nat} (hd : 0 < d) :
    2 * |(nearestEven n d : ℚ) - n / d| ≤ 1 ∧
      (2 * |(nearestEven n d : ℚ) - n / d| = 1 → nearestEven n d % 2 = 0) := by
  obtain ⟨hnear, heven⟩ := nearestEven_spec n hd
  have hd' : (0 : ℚ) < d := by exact_mod_cast hd
  have hdistance : 2 * |(nearestEven n d : ℚ) - n / d| = (2 * ((nearestEven n d : ℤ) * d - n).natAbs : ℕ) / d := by
    rw [eq_div_iff hd'.ne', mul_assoc, abs_sub_mul_of_pos hd', div_mul_cancel₀ _ hd'.ne']
    push_cast [Nat.cast_natAbs]
    rfl
  rw [hdistance, div_le_one hd', div_eq_one_iff_eq hd'.ne']
  exact ⟨by exact_mod_cast hnear, fun h => heven (by exact_mod_cast h)⟩

theorem roundTo_of_zero (f : FloatFormat) {r : Fraction} (h : r.num = 0) : roundTo f r = ⟨false, 0, f.minExp⟩ := if_pos h

theorem RoundsTo.zero (f : FloatFormat) : RoundsTo f 0 ⟨false, 0, f.minExp⟩ where
  sign := by simp
  least := le_rfl
  below := by simp [scaled]
  normal := .inl rfl
  nearest := by simp [scaled]
  even := by simp

/-- The model's rounding is the relation's. -/
theorem roundTo_roundsTo (f : FloatFormat) {r : Fraction} (hden : 0 < r.den) : RoundsTo f r.toRat (roundTo f r) := by
  by_cases hnum : r.num = 0
  · rw [roundTo_of_zero f hnum, Fraction.toRat, hnum, Int.cast_zero, zero_div]
    exact RoundsTo.zero f
  · have hden' : (0 : ℚ) < r.den := by exact_mod_cast hden
    have hscaled : ∀ e, scaled r.toRat e = (r.num.natAbs : ℚ) / r.den * 2 ^ (-e) := by
      intro e
      rw [scaled, Fraction.toRat, abs_div, abs_of_pos hden', Nat.cast_natAbs, Int.cast_abs]
    obtain ⟨hbelow, hnormal⟩ := significandExponent_spec f (Int.natAbs_pos.2 hnum) hden
    obtain ⟨hnear, heven⟩ := nearestEven_rat (scaleBy r.num.natAbs r.den (significandExponent f r.num.natAbs r.den)).1
      (scaleBy_den_pos (significandExponent f r.num.natAbs r.den) (n := r.num.natAbs) hden)
    rw [scaleBy_value, ← hscaled] at hnear heven
    rw [← hscaled] at hbelow hnormal
    rw [roundTo, if_neg hnum]
    exact {
      sign := by simp [Fraction.toRat, div_neg_iff, hden', hden'.le, not_lt.2]
      least := le_max_left _ _
      below := hbelow
      normal := hnormal
      nearest := hnear
      even := heven }

namespace RoundsTo

section
variable {f : FloatFormat} {v w : ℚ} {x y : Rounded}

theorem abs_lt_two_pow (h : RoundsTo f v x) : |v| < 2 ^ (f.precision + x.exponent) := by
  rw [← scaled_mul v x.exponent, zpow_add₀ two_ne_zero, zpow_natCast]
  exact mul_lt_mul_of_pos_right h.below (by positivity)

theorem lt_exponent (h : RoundsTo f v x) {k : ℤ} (hv : 2 ^ (f.precision + k) ≤ |v|) : k < x.exponent := by
  have hpow := hv.trans_lt h.abs_lt_two_pow
  rw [zpow_lt_zpow_iff_right₀ one_lt_two] at hpow
  omega

theorem exponent_le (h : RoundsTo f v x) {k : ℤ} (hk : f.minExp ≤ k) (hv : |v| < 2 ^ (f.precision + k)) :
    x.exponent ≤ k := by
  rcases h.normal with hleast | hnormal
  · exact hleast.trans_le hk
  · have hpow : (2 : ℚ) ^ ((f.precision : ℤ) - 1 + x.exponent) < 2 ^ (f.precision + k) := by
      calc (2 : ℚ) ^ ((f.precision : ℤ) - 1 + x.exponent) = 2 ^ ((f.precision : ℤ) - 1) * 2 ^ x.exponent :=
            zpow_add₀ two_ne_zero _ _
        _ ≤ scaled v x.exponent * 2 ^ x.exponent := mul_le_mul_of_nonneg_right hnormal (by positivity)
        _ = |v| := scaled_mul v _
        _ < _ := hv
    rw [zpow_lt_zpow_iff_right₀ one_lt_two] at hpow
    omega

/-- The error, in units of the significand's lowest bit. -/
theorem abs_error (h : RoundsTo f v x) :
    |x.toRat - v| = |(x.significand : ℚ) - scaled v x.exponent| * 2 ^ x.exponent := by
  have hpos : (0 : ℚ) < 2 ^ x.exponent := by positivity
  have hunit : |(x.significand : ℚ) - scaled v x.exponent| * 2 ^ x.exponent = |x.significand * 2 ^ x.exponent - (|v|)| := by
    rw [abs_sub_mul_of_pos hpos, scaled_mul]
  rw [hunit, Rounded.toRat, h.sign]
  rcases lt_or_ge v 0 with hv | hv
  · rw [decide_eq_true hv, abs_of_neg hv, if_pos rfl, ← abs_neg]
    congr 1
    ring
  · rw [decide_eq_false (not_lt.2 hv), abs_of_nonneg hv, if_neg Bool.false_ne_true, one_mul]

/-- The error is at most half of any unit that is no smaller than the significand's lowest bit. -/
theorem abs_error_le (h : RoundsTo f v x) {k : ℤ} (hk : x.exponent ≤ k) : |x.toRat - v| ≤ 2 ^ k / 2 := by
  have hpow : (2 : ℚ) ^ x.exponent ≤ 2 ^ k := zpow_le_zpow_right₀ one_le_two hk
  have hpos : (0 : ℚ) < 2 ^ x.exponent := by positivity
  rw [h.abs_error]
  nlinarith [h.nearest]

/-- A value that the format holds is rounded to itself. -/
theorem exact (h : RoundsTo f v x) {m k : ℤ} (hm : |m| < 2 ^ f.precision) (hk : f.minExp ≤ k) (hv : v = m * 2 ^ k) :
    x.toRat = v := by
  have habs : |v| = (|m| : ℤ) * 2 ^ k := by rw [hv, abs_intCast_mul_two_zpow]
  have hle : x.exponent ≤ k := by
    refine h.exponent_le hk ?_
    rw [habs, zpow_add₀ two_ne_zero, zpow_natCast]
    exact mul_lt_mul_of_pos_right (by exact_mod_cast hm) (by positivity)
  obtain ⟨j, hj⟩ := Int.le.dest hle
  have hinteger : scaled v x.exponent = (|m| * 2 ^ j : ℤ) := by
    rw [scaled, habs, mul_assoc, ← zpow_add₀ two_ne_zero, ← hj, add_neg_cancel_comm, zpow_natCast]
    push_cast
    rfl
  have hnear := h.nearest
  rw [hinteger] at hnear
  have hsignificand : (x.significand : ℤ) - |m| * 2 ^ j = 0 := by
    have : 2 * |(x.significand : ℤ) - |m| * 2 ^ j| ≤ 1 := by exact_mod_cast hnear
    have := abs_nonneg ((x.significand : ℤ) - |m| * 2 ^ j)
    exact abs_eq_zero.1 (by omega)
  rw [← sub_eq_zero, ← abs_eq_zero, h.abs_error, hinteger]
  rw [show (x.significand : ℚ) - (|m| * 2 ^ j : ℤ) = 0 by exact_mod_cast hsignificand]
  simp

theorem significand_le (h : RoundsTo f v x) (k : RoundsTo f v y) (hexp : x.exponent = y.exponent) :
    x.significand ≤ y.significand := by
  by_contra hlt
  have hstep : (y.significand : ℚ) + 1 ≤ x.significand := by exact_mod_cast not_le.1 hlt
  have hx := h.nearest
  have hy := k.nearest
  have hxe := h.even
  have hye := k.even
  rw [← hexp] at hy hye
  obtain ⟨hx1, hx2⟩ := abs_le.1 (show |(x.significand : ℚ) - scaled v x.exponent| ≤ 1 / 2 by linarith)
  obtain ⟨hy1, hy2⟩ := abs_le.1 (show |(y.significand : ℚ) - scaled v x.exponent| ≤ 1 / 2 by linarith)
  have hxtie : (x.significand : ℚ) - scaled v x.exponent = 1 / 2 := by linarith
  have hytie : (y.significand : ℚ) - scaled v x.exponent = -(1 / 2) := by linarith
  have hnext : (x.significand : ℚ) = (y.significand + 1 : ℕ) := by push_cast; linarith
  have hnext := Nat.cast_injective hnext
  have hxeven := hxe (by rw [hxtie]; norm_num)
  have hyeven := hye (by rw [hytie]; norm_num)
  omega

/-- Rounding has one result. -/
theorem unique (h : RoundsTo f v x) (k : RoundsTo f v y) : x = y := by
  have hexp : x.exponent = y.exponent :=
    le_antisymm (h.exponent_le k.least k.abs_lt_two_pow) (k.exponent_le h.least h.abs_lt_two_pow)
  have hsignificand : x.significand = y.significand :=
    le_antisymm (h.significand_le k hexp) (k.significand_le h hexp.symm)
  cases x
  cases y
  have hsign := h.sign.trans k.sign.symm
  simp only at hexp hsignificand hsign
  rw [hexp, hsignificand, hsign]

/-- Two values of one sign with no multiple of half a unit in the last place between them are rounded alike. -/
theorem of_same_half (h : RoundsTo f v x) (hsign : v < 0 ↔ w < 0) {m : ℤ}
    (hv : (m : ℚ) < 2 * scaled v x.exponent ∧ 2 * scaled v x.exponent < m + 1)
    (hw : (m : ℚ) < 2 * scaled w x.exponent ∧ 2 * scaled w x.exponent < m + 1) : RoundsTo f w x := by
  obtain ⟨hv1, hv2⟩ := hv
  obtain ⟨hw1, hw2⟩ := hw
  obtain ⟨hs1, hs2⟩ := abs_le.1 (show |(x.significand : ℚ) - scaled v x.exponent| ≤ 1 / 2 by linarith [h.nearest])
  have hslow : (m : ℚ) ≤ (2 * x.significand : ℤ) := intCast_le_of_lt_add_one (by push_cast; linarith)
  have hshigh : ((2 * x.significand : ℤ) : ℚ) ≤ (m + 1 : ℤ) := intCast_le_of_lt_add_one (by push_cast; linarith)
  push_cast at hslow hshigh
  have hcloser : |(x.significand : ℚ) - scaled w x.exponent| < 1 / 2 := abs_lt.2 ⟨by linarith, by linarith⟩
  exact {
    sign := by rw [h.sign, decide_eq_decide]; exact hsign
    least := h.least
    below := by
      have hm : ((m + 1 : ℤ) : ℚ) ≤ (2 * 2 ^ f.precision : ℤ) :=
        intCast_le_of_lt_add_one (by push_cast; linarith [h.below])
      push_cast at hm
      linarith
    normal := by
      refine h.normal.imp_right fun hnormal => ?_
      have htwice : (2 : ℚ) * 2 ^ ((f.precision : ℤ) - 1) = 2 ^ f.precision := by
        rw [← zpow_one_add₀ two_ne_zero, add_sub_cancel, zpow_natCast]
      have hm : ((2 ^ f.precision : ℤ) : ℚ) ≤ m := intCast_le_of_lt_add_one (by push_cast; linarith)
      push_cast at hm
      linarith
    nearest := by linarith
    even := fun htie => absurd htie (by linarith) }

/-- Two values are rounded alike where the first is nearer to the second than to every multiple of half a unit in its last
place: no tie and no power of two lies between them, and neither is one. -/
theorem of_near (h : RoundsTo f v x) (hnear : ∀ m : ℤ, |v - w| < |v - m * 2 ^ (x.exponent - 1)|) : RoundsTo f w x := by
  have hsign : v < 0 ↔ w < 0 := by
    have := hnear 0
    grind
  have hgrid : ∀ m : ℤ, |2 * scaled v x.exponent - 2 * scaled w x.exponent| < |2 * scaled v x.exponent - m| := by
    intro m
    have hpos : (0 : ℚ) < 2 ^ (x.exponent - 1) := by positivity
    have hunit : ∀ u : ℚ, 2 * scaled u x.exponent * 2 ^ (x.exponent - 1) = |u| := by
      intro u
      rw [mul_right_comm, ← zpow_one_add₀ two_ne_zero, add_sub_cancel, mul_comm, scaled_mul]
    have hside : ∃ k : ℤ, |(|v|) - m * 2 ^ (x.exponent - 1)| = |v - k * 2 ^ (x.exponent - 1)| := by
      rcases abs_choice v with hv | hv
      · exact ⟨m, by rw [hv]⟩
      · exact ⟨-m, by rw [hv, ← abs_neg]; push_cast; ring_nf⟩
    obtain ⟨k, hk⟩ := hside
    rw [← mul_lt_mul_iff_of_pos_right hpos, abs_sub_mul_of_pos hpos, abs_sub_mul_of_pos hpos, hunit, hunit, hk]
    exact (abs_abs_sub_abs_le_abs_sub v w).trans_lt (hnear k)
  have hfloor := Int.floor_le (2 * scaled v x.exponent)
  have hceil := Int.lt_floor_add_one (2 * scaled v x.exponent)
  have hlow := hgrid ⌊2 * scaled v x.exponent⌋
  have hhigh := hgrid (⌊2 * scaled v x.exponent⌋ + 1)
  rw [abs_of_nonneg (sub_nonneg.2 hfloor)] at hlow
  push_cast at hhigh
  rw [abs_of_neg (sub_neg.2 hceil)] at hhigh
  obtain ⟨hlow1, hlow2⟩ := abs_lt.1 hlow
  obtain ⟨hhigh1, hhigh2⟩ := abs_lt.1 hhigh
  exact h.of_same_half hsign ⟨by linarith [abs_nonneg (2 * scaled v x.exponent - 2 * scaled w x.exponent)], hceil⟩
    ⟨by linarith, by linarith⟩

end

end RoundsTo

/-! ### Rounding depends on the value alone -/

theorem roundTo_congr (f : FloatFormat) {a b : Fraction} (ha : 0 < a.den) (hb : 0 < b.den) (h : a.toRat = b.toRat) :
    roundTo f a = roundTo f b :=
  (roundTo_roundsTo f ha).unique (h ▸ roundTo_roundsTo f hb)

theorem fl32_congr {a b : Fraction} (ha : 0 < a.den) (hb : 0 < b.den) (h : a.toRat = b.toRat) : fl32 a = fl32 b :=
  congrArg Rounded.bits32 (roundTo_congr binary32 ha hb h)

/-! ### The binary32 word of a rounded value -/

/-- A word is the binary32 encoding of a rounded value: no NaN, infinity, subnormal or -0.0, with the value's numerator, with a
unit in the last place that is no smaller than the significand's lowest bit, and with the significand's parity. -/
structure Encodes (w : Word) (x : Rounded) : Prop where
  plain : plainFloat w
  numerator : (floatNumerator w : ℚ) = x.toRat * 2 ^ 149
  unit : (2 : ℚ) ^ (x.exponent + 149) ≤ 2 ^ (w.toNat / 2 ^ 23 % 256 - 1)
  parity : w.toNat % 2 = x.significand % 2

/-- A word by its sign, its biased exponent and its fraction. -/
theorem floatNumerator_of_fields {w : Word} {negative : Bool} {biased fraction : Nat} (hlow : 1 ≤ biased)
    (hhigh : biased ≤ 254) (hfraction : fraction < 2 ^ 23)
    (hw : w.toNat = (if negative then 2 ^ 31 else 0) + 2 ^ 23 * biased + fraction) :
    w.toNat / 2 ^ 23 % 256 = biased ∧
      floatNumerator w = (if negative then -1 else 1) * ((2 ^ 23 + fraction) * 2 ^ (biased - 1) : ℕ) := by
  have hfields : w.toNat / 2 ^ 23 % 256 = biased ∧ w.toNat % 2 ^ 23 = fraction ∧ w.toNat ≠ 0 ∧
      (w.toNat / 2 ^ 31 = 1 ↔ negative = true) := by
    cases negative <;> simp only [if_true, if_false, Bool.false_eq_true, iff_true, iff_false] at hw ⊢ <;> omega
  obtain ⟨hbiased, hmod, hne, hsign⟩ := hfields
  have hzero : w ≠ 0 := fun h => hne (by rw [h]; rfl)
  refine ⟨hbiased, ?_⟩
  simp only [floatNumerator, if_neg hzero, hbiased, hmod, hsign]
  cases negative <;> simp

/-- Below the largest exponent, a significand of binary32's bits is encoded by its own fields; one that rounding carried to
2^24 is encoded as 2^23 with the next exponent. -/
theorem Rounded.bits32_encodes {x : Rounded} (hlow : 2 ^ 23 ≤ x.significand) (hhigh : x.significand ≤ 2 ^ 24)
    (hexpLow : -149 ≤ x.exponent) (hexpHigh : x.exponent ≤ 103) : Encodes x.bits32 x := by
  obtain ⟨k, hk⟩ := Int.eq_ofNat_of_zero_le (show 0 ≤ x.exponent + 149 by omega)
  have hunit : (2 : ℚ) ^ (x.exponent + 149) = 2 ^ k := by rw [hk, zpow_natCast]
  have htoNat : x.bits32.toNat = (if x.negative then 2 ^ 31 else 0) + (2 ^ 23 * k + x.significand) := by
    rw [Rounded.bits32, hk, Int.toNat_natCast, min_eq_left (by omega), BitVec.toNat_ofNat, Nat.mod_eq_of_lt]
    split <;> omega
  have hvalue : x.toRat * 2 ^ 149 = (if x.negative then -1 else 1) * (x.significand * 2 ^ k) := by
    rw [← hunit, zpow_add₀ two_ne_zero, zpow_ofNat, Rounded.toRat]
    ring
  have hparity : x.bits32.toNat % 2 = x.significand % 2 := by
    rw [htoNat]
    split <;> omega
  rcases hhigh.lt_or_eq with hlt | hcarry
  · obtain ⟨hbiased, hnumerator⟩ := floatNumerator_of_fields (w := x.bits32) (negative := x.negative) (biased := k + 1)
      (fraction := x.significand - 2 ^ 23) (by omega) (by omega) (by omega) (by rw [htoNat]; omega)
    refine ⟨.inr (by omega), ?_, by rw [hbiased, hunit]; exact le_rfl, hparity⟩
    rw [hnumerator, hvalue, Nat.add_sub_cancel' hlow, Nat.add_sub_cancel]
    split <;> push_cast <;> rfl
  · obtain ⟨hbiased, hnumerator⟩ := floatNumerator_of_fields (w := x.bits32) (negative := x.negative) (biased := k + 2)
      (fraction := 0) (by omega) (by omega) (by omega) (by rw [htoNat, hcarry]; omega)
    refine ⟨.inr (by omega), ?_, ?_, hparity⟩
    · rw [hnumerator, hvalue, hcarry]
      split <;> push_cast <;> ring
    · rw [hbiased, hunit]
      exact pow_le_pow_right₀ one_le_two (by omega)

/-- A value binary32 rounds to zero or to a finite normal number. -/
def NormalRange (v : ℚ) : Prop := v = 0 ∨ 2 ^ (-126 : ℤ) ≤ |v| ∧ |v| < 2 ^ (127 : ℤ)

namespace RoundsTo

variable {v : ℚ} {x : Rounded}

theorem significand_bounds (h : RoundsTo binary32 v x) (hv : 2 ^ (-126 : ℤ) ≤ |v|) :
    2 ^ 23 ≤ x.significand ∧ x.significand ≤ 2 ^ 24 := by
  have hscaled : (2 : ℚ) ^ 23 ≤ scaled v x.exponent := by
    rcases h.normal with hleast | hnormal
    · rw [hleast, scaled, binary32]
      calc (2 : ℚ) ^ 23 = 2 ^ (-126 : ℤ) * 2 ^ (-(-149) : ℤ) := by norm_num
        _ ≤ |v| * 2 ^ (-(-149) : ℤ) := mul_le_mul_of_nonneg_right hv (by positivity)
    · exact (by norm_num [binary32] : (2 : ℚ) ^ 23 = 2 ^ ((binary32.precision : ℤ) - 1)).trans_le hnormal
  have hbelow : scaled v x.exponent < 2 ^ 24 := h.below
  obtain ⟨hlow, hhigh⟩ := abs_le.1 (show |(x.significand : ℚ) - scaled v x.exponent| ≤ 1 / 2 by linarith [h.nearest])
  constructor
  · have : (2 : ℚ) ^ 23 < x.significand + 1 := by linarith
    exact Nat.lt_succ_iff.1 (by exact_mod_cast this)
  · have : (x.significand : ℚ) < 2 ^ 24 + 1 := by linarith
    exact Nat.lt_succ_iff.1 (by exact_mod_cast this)

theorem encodes (h : RoundsTo binary32 v x) (hv : NormalRange v) : Encodes x.bits32 x := by
  rcases hv with rfl | ⟨hlow, hhigh⟩
  · rw [h.unique (RoundsTo.zero binary32)]
    exact ⟨.inl (by decide), by simp [Rounded.toRat, floatNumerator, Rounded.bits32, binary32],
      by norm_num [binary32, Rounded.bits32], by decide⟩
  · obtain ⟨hsigLow, hsigHigh⟩ := h.significand_bounds hlow
    exact Rounded.bits32_encodes hsigLow hsigHigh h.least (h.exponent_le (by decide) hhigh)

/-- What the relation says of a rounded value, its word says in integers. -/
theorem roundedWord (h : RoundsTo binary32 v x) (hv : NormalRange v) {num : Int} {den : Nat} (hden : 0 < den)
    (hfraction : v = num / den) : RoundedWord x.bits32 num den := by
  have henc := h.encodes hv
  have hden' : (0 : ℚ) < den := by exact_mod_cast hden
  have hdistance : (2 * floatDistance x.bits32 num den : ℚ) =
      den * 2 ^ (x.exponent + 149) * (2 * |(x.significand : ℚ) - scaled v x.exponent|) := by
    have hcross : (floatDistance x.bits32 num den : ℚ) = |x.toRat - v| * (den * 2 ^ 149) := by
      rw [abs_sub_mul_of_pos (by positivity), hfraction, ← mul_assoc (_ / _), div_mul_cancel₀ _ hden'.ne', mul_left_comm,
        ← henc.numerator, floatDistance, Nat.cast_natAbs, mul_comm (den : ℚ)]
      exact_mod_cast rfl
    rw [hcross, h.abs_error, zpow_add₀ two_ne_zero, zpow_ofNat]
    ring
  have hpos : (0 : ℚ) < den * 2 ^ (x.exponent + 149) := by positivity
  have hunit : (den : ℚ) * 2 ^ (x.exponent + 149) ≤ den * 2 ^ (x.bits32.toNat / 2 ^ 23 % 256 - 1) :=
    mul_le_mul_of_nonneg_left henc.unit hden'.le
  refine ⟨henc.plain, ?_, fun htie => ?_⟩
  · have := mul_le_mul_of_nonneg_left h.nearest hpos.le
    rw [← hdistance, mul_one] at this
    exact_mod_cast this.trans hunit
  · have htie' : (2 * floatDistance x.bits32 num den : ℚ) = den * 2 ^ (x.bits32.toNat / 2 ^ 23 % 256 - 1) := by
      exact_mod_cast htie
    rw [henc.parity]
    refine h.even (le_antisymm h.nearest ?_)
    rw [← htie', hdistance] at hunit
    exact (le_mul_iff_one_le_right hpos).1 hunit

end RoundsTo

/-! ### The linear conversions (R162) -/

theorem normalRange_of_dyadic {m : ℤ} {j : Nat} (hm : |m| < 2 ^ 24) (hj : j ≤ 126) : NormalRange (m * 2 ^ (-j : ℤ)) := by
  rcases eq_or_ne m 0 with rfl | hne
  · exact .inl (by simp)
  · have hone : (1 : ℚ) ≤ (|m| : ℤ) := by exact_mod_cast Int.one_le_abs hne
    have hbits : ((|m| : ℤ) : ℚ) ≤ 2 ^ 24 := by exact_mod_cast hm.le
    have hsmall : (2 : ℚ) ^ (-126 : ℤ) ≤ 2 ^ (-j : ℤ) := zpow_le_zpow_right₀ one_le_two (by omega)
    have hlarge : (2 : ℚ) ^ (-j : ℤ) ≤ 1 := zpow_le_one_of_nonpos₀ one_le_two (by omega)
    refine .inr ?_
    rw [abs_intCast_mul_two_zpow]
    constructor
    · exact hsmall.trans (le_mul_of_one_le_left (by positivity) hone)
    · calc ((|m| : ℤ) : ℚ) * 2 ^ (-j : ℤ) ≤ 2 ^ 24 * 1 := mul_le_mul hbits hlarge (by positivity) (by positivity)
        _ < 2 ^ (127 : ℤ) := by norm_num

/-- A fraction that is an integer of at most 24 bits over a power of two is encoded without rounding. -/
theorem fl32_exact {num m : Int} {den j : Nat} (hden : 0 < den) (hm : |m| < 2 ^ 24) (hj : j ≤ 126)
    (h : num * 2 ^ j = m * den) :
    plainFloat (fl32 ⟨num, den⟩) ∧ floatNumerator (fl32 ⟨num, den⟩) * den = num * 2 ^ 149 := by
  have hden' : (den : ℚ) ≠ 0 := by exact_mod_cast hden.ne'
  have hvalue : (num : ℚ) / den = m * 2 ^ (-j : ℤ) := by
    rw [zpow_neg, zpow_natCast, div_eq_iff hden', mul_right_comm, eq_mul_inv_iff_mul_eq₀ (by positivity)]
    exact_mod_cast h
  have hrounds : RoundsTo binary32 (num / den) (roundTo binary32 ⟨num, den⟩) :=
    roundTo_roundsTo binary32 (r := ⟨num, den⟩) hden
  have hexact : (roundTo binary32 ⟨num, den⟩).toRat = num / den :=
    hrounds.exact hm (show (-149 : ℤ) ≤ -j by omega) hvalue
  have hrange : NormalRange ((num : ℚ) / den) := hvalue ▸ normalRange_of_dyadic hm hj
  have henc := hrounds.encodes hrange
  refine ⟨henc.plain, ?_⟩
  have hnumerator : (floatNumerator (fl32 ⟨num, den⟩) : ℚ) * den = num * 2 ^ 149 := by
    rw [fl32, henc.numerator, hexact]
    field_simp
  exact_mod_cast hnumerator

/-! ### The temperature conversion (R163) -/

/-- A rounded value is a multiple of the significand's lowest bit. -/
theorem Rounded.toRat_eq_int_mul (x : Rounded) : ∃ m : ℤ, x.toRat = m * 2 ^ x.exponent := by
  refine ⟨(if x.negative then -1 else 1) * x.significand, ?_⟩
  rw [Rounded.toRat]
  push_cast
  ring

/-- Values at most a quarter of a unit apart are rounded to values at most a unit apart, even where each error is half a unit:
then both results are multiples of the unit. -/
theorem RoundsTo.toRat_close {f : FloatFormat} {v w : ℚ} {x y : Rounded} (hx : RoundsTo f v x) (hy : RoundsTo f w y) {k : ℤ}
    (hxk : x.exponent ≤ k) (hyk : y.exponent ≤ k) (hvw : |v - w| ≤ 2 ^ k / 4) : |x.toRat - y.toRat| ≤ 2 ^ k := by
  have hpos : (0 : ℚ) < 2 ^ k := by positivity
  have hsum : |x.toRat - y.toRat| ≤ |x.toRat - v| + |v - w| + |y.toRat - w| := by
    rw [abs_sub_comm y.toRat w]
    exact (abs_sub_le _ w _).trans (add_le_add_left (abs_sub_le _ v _) _)
  have hhalf : (2 : ℚ) ^ (k - 1) = 2 ^ k / 2 := zpow_sub_one₀ two_ne_zero k
  have hxerror := hx.abs_error_le hxk
  have hyerror := hy.abs_error_le hyk
  rcases hxk.lt_or_eq with hlt | hxk
  · have := hx.abs_error_le (Int.le_sub_one_of_lt hlt)
    linarith
  rcases hyk.lt_or_eq with hlt | hyk
  · have := hy.abs_error_le (Int.le_sub_one_of_lt hlt)
    linarith
  obtain ⟨m, hm⟩ := x.toRat_eq_int_mul
  obtain ⟨n, hn⟩ := y.toRat_eq_int_mul
  rw [hxk] at hm
  rw [hyk] at hn
  have hdiff : |x.toRat - y.toRat| = (|m - n| : ℤ) * 2 ^ k := by
    rw [hm, hn, ← abs_sub_mul_of_pos hpos]
    push_cast
    rfl
  have hone : ((|m - n| : ℤ) : ℚ) ≤ (1 : ℤ) := intCast_le_of_lt_add_one (by push_cast at hdiff ⊢; nlinarith)
  rw [hdiff]
  exact mul_le_of_le_one_left hpos.le (by simpa using hone)

/-- The quotient of R163 in a format, plus 36.25, not yet rounded. -/
def tempSum (f : FloatFormat) (r : Int) : Fraction := (roundTo f ⟨r, 340⟩).value.add tempOffset

theorem tempConv_f32Stepwise (r : Int) : tempConv .f32Stepwise r = fl32 (tempSum binary32 r) := rfl

theorem tempConv_f64ThenF32 (r : Int) : tempConv .f64ThenF32 r = fl32 (roundTo binary64 (tempSum binary64 r)).value := rfl

theorem tempSum_den_pos (f : FloatFormat) (r : Int) : 0 < (tempSum f r).den :=
  Nat.mul_pos (Rounded.value_den_pos _) (by decide)

theorem tempSum_toRat (f : FloatFormat) (r : Int) : (tempSum f r).toRat = (roundTo f ⟨r, 340⟩).toRat + 145 / 4 := by
  rw [tempSum, Fraction.add_toRat (Rounded.value_den_pos _) (by decide), Rounded.value_toRat]
  simp [tempOffset, Fraction.toRat]

theorem roundsTo_div_340 (f : FloatFormat) (n : Int) : RoundsTo f (n / 340) (roundTo f ⟨n, 340⟩) :=
  roundTo_roundsTo f (r := ⟨n, 340⟩) (Nat.succ_pos _)

theorem roundsTo_tempSum (f g : FloatFormat) (r : Int) : RoundsTo g (tempSum f r).toRat (roundTo g (tempSum f r)) :=
  roundTo_roundsTo g (tempSum_den_pos f r)

theorem abs_div_340 (n : Int) : |(n : ℚ) / 340| = (|n| : ℤ) / 340 := by
  rw [abs_div, Int.cast_abs]
  norm_num

theorem abs_div_340_lower {n : Int} (h : n ≠ 0) : 1 / 340 ≤ |(n : ℚ) / 340| := by
  have hone : (1 : ℚ) ≤ (|n| : ℤ) := by exact_mod_cast Int.one_le_abs h
  rw [abs_div_340]
  linarith

theorem abs_div_340_le {n b : Int} (h : |n| ≤ b) : |(n : ℚ) / 340| ≤ b / 340 := by
  have hbound : ((|n| : ℤ) : ℚ) ≤ b := by exact_mod_cast h
  rw [abs_div_340]
  linarith

theorem normalRange_div_340 {n : Int} (h : |n| ≤ 2 ^ 16) : NormalRange ((n : ℚ) / 340) := by
  rcases eq_or_ne n 0 with rfl | hne
  · exact .inl (by simp)
  · exact .inr ⟨le_trans (by norm_num) (abs_div_340_lower hne), (abs_div_340_le h).trans_lt (by norm_num)⟩

/-- A quotient by 340 is dyadic where 85 divides: then it has at most 24 bits and is held exactly. -/
theorem RoundsTo.exact_div_340 {f : FloatFormat} {n : Int} {x : Rounded} (h : RoundsTo f (n / 340) x) (hdvd : 85 ∣ n)
    (hn : |n| ≤ 2 ^ 16) (hp : 24 ≤ f.precision) (hf : f.minExp ≤ -2) : x.toRat = n / 340 := by
  obtain ⟨m, rfl⟩ := hdvd
  refine h.exact (m := m) (k := -2) ?_ hf ?_
  · calc |m| < 2 ^ 24 := by rw [abs_le] at hn; rw [abs_lt]; omega
      _ ≤ 2 ^ f.precision := pow_le_pow_right₀ (by decide) hp
  · push_cast
    rw [show (2 : ℚ) ^ (-2 : ℤ) = 85 / 340 by norm_num]
    ring

/-- Where 85 does not divide, a quotient by 340 keeps its distance from every multiple of `2 ^ (-j)`. -/
theorem div_340_far_from_grid {n : Int} (h : ¬85 ∣ n) (m : Int) (j : Nat) :
    1 / (340 * 2 ^ j) ≤ |(n : ℚ) / 340 - m * 2 ^ (-j : ℤ)| := by
  have hne : n * 2 ^ j - 340 * m ≠ 0 := by
    intro hzero
    have hcoprime : IsCoprime (85 : ℤ) (2 ^ j) := IsCoprime.pow_right (by norm_num)
    exact h (hcoprime.dvd_of_dvd_mul_right ⟨4 * m, by linarith⟩)
  have hone : (1 : ℚ) ≤ (|n * 2 ^ j - 340 * m| : ℤ) := by exact_mod_cast Int.one_le_abs hne
  have hpos : (0 : ℚ) < 340 * 2 ^ j := by positivity
  have hcross : |(n : ℚ) / 340 - m * 2 ^ (-j : ℤ)| * (340 * 2 ^ j) = (|n * 2 ^ j - 340 * m| : ℤ) := by
    rw [abs_sub_mul_of_pos hpos, zpow_neg, zpow_natCast]
    push_cast
    field_simp
  rw [div_le_iff₀ hpos, hcross]
  exact hone

section
variable {f : FloatFormat} {r : Int} (hr : |r| ≤ 2 ^ 15)
include hr

theorem quotient_error (hf : f.minExp ≤ 7 - f.precision) :
    |(roundTo f ⟨r, 340⟩).toRat - r / 340| ≤ 2 ^ (7 - f.precision : ℤ) / 2 := by
  refine (roundsTo_div_340 f r).abs_error_le ((roundsTo_div_340 f r).exponent_le hf ?_)
  rw [add_sub_cancel]
  exact (abs_div_340_le hr).trans_lt (by norm_num)

theorem abs_raw_add_offset_le : |r + 12325| ≤ 2 ^ 16 := by
  rw [abs_le] at hr ⊢
  omega

theorem tempSum_error (hf : f.minExp ≤ 7 - f.precision) :
    |(tempSum f r).toRat - (r + 12325 : ℤ) / 340| ≤ 2 ^ (7 - f.precision : ℤ) / 2 := by
  have hsame : (tempSum f r).toRat - (r + 12325 : ℤ) / 340 = (roundTo f ⟨r, 340⟩).toRat - r / 340 := by
    rw [tempSum_toRat]
    push_cast
    ring
  rw [hsame]
  exact quotient_error hr hf

theorem tempSum_of_dvd (hdvd : 85 ∣ r) (hp : 24 ≤ f.precision) (hf : f.minExp ≤ -2) :
    (tempSum f r).toRat = (r + 12325 : ℤ) / 340 := by
  rw [tempSum_toRat, (roundsTo_div_340 f r).exact_div_340 hdvd (hr.trans (by decide)) hp hf]
  push_cast
  ring

theorem tempSum_abs_lt (hf : f.minExp ≤ 7 - f.precision) (hp : 7 ≤ f.precision) :
    |(tempSum f r).toRat| < 2 ^ (8 : ℤ) := by
  have hexact := (abs_div_340_le (abs_raw_add_offset_le hr)).trans (by norm_num : ((2 ^ 16 : ℤ) : ℚ) / 340 ≤ 200)
  have herror := tempSum_error hr hf
  have hunit : (2 : ℚ) ^ (7 - f.precision : ℤ) ≤ 1 := zpow_le_one_of_nonpos₀ one_le_two (by omega)
  have htriangle := abs_sub_abs_le_abs_sub (tempSum f r).toRat ((r + 12325 : ℤ) / 340)
  have hpower : (2 : ℚ) ^ (8 : ℤ) = 256 := by norm_num
  linarith

theorem tempSum_exponent_le {g : FloatFormat} (hf : f.minExp ≤ 7 - f.precision) (hp : 7 ≤ f.precision)
    (hg : g.minExp ≤ 8 - g.precision) : (roundTo g (tempSum f r)).exponent ≤ 8 - g.precision := by
  refine (roundsTo_tempSum f g r).exponent_le hg ?_
  rw [add_sub_cancel]
  exact tempSum_abs_lt hr hf hp

theorem exact_exponent_le : (roundTo binary32 ⟨r + 12325, 340⟩).exponent ≤ -16 :=
  (roundsTo_div_340 binary32 (r + 12325)).exponent_le (by decide)
    ((abs_div_340_le (abs_raw_add_offset_le hr)).trans_lt (by norm_num [binary32]))

/-- The two roundings to binary64 together move the value by less than `2 ^ -44`. -/
theorem binary64_error : |(roundTo binary64 (tempSum binary64 r)).toRat - (r + 12325 : ℤ) / 340| < 1 / 2 ^ 44 := by
  have hfirst : _ ≤ (2 : ℚ) ^ (-46 : ℤ) / 2 := tempSum_error (f := binary64) hr (by decide)
  have hsecond : _ ≤ (2 : ℚ) ^ (-45 : ℤ) / 2 := (roundsTo_tempSum binary64 binary64 r).abs_error_le
    (tempSum_exponent_le hr (by decide) (by decide) (by decide))
  have htriangle := abs_sub_le (roundTo binary64 (tempSum binary64 r)).toRat (tempSum binary64 r).toRat
    ((r + 12325 : ℤ) / 340)
  have hsmall : (2 : ℚ) ^ (-46 : ℤ) / 2 + 2 ^ (-45 : ℤ) / 2 < 1 / 2 ^ 44 := by norm_num
  linarith

theorem binary64_exact (hdvd : 85 ∣ r) : (roundTo binary64 (tempSum binary64 r)).toRat = (r + 12325 : ℤ) / 340 := by
  have hrounds := roundsTo_tempSum binary64 binary64 r
  rw [tempSum_of_dvd hr hdvd (by decide) (by decide)] at hrounds
  exact hrounds.exact_div_340 (by omega) (abs_raw_add_offset_le hr) (by decide) (by decide)

/-- Rounding to binary64 on the way does not change the binary32 result: where 85 divides it is exact, and elsewhere it does
not reach across half a unit in the last place of the result. -/
theorem tempConv_f64ThenF32_eq : tempConv .f64ThenF32 r = fl32 ⟨r + 12325, 340⟩ := by
  have hden := Rounded.value_den_pos (roundTo binary64 (tempSum binary64 r))
  rw [tempConv_f64ThenF32]
  by_cases hdvd : 85 ∣ r
  · refine fl32_congr hden (Nat.succ_pos _) ?_
    rw [Rounded.value_toRat, binary64_exact hr hdvd]
    rfl
  · have hexact := roundsTo_div_340 binary32 (r + 12325)
    have hdvd' : ¬85 ∣ r + 12325 := by omega
    have hexp : -33 < (roundTo binary32 ⟨r + 12325, 340⟩).exponent :=
      hexact.lt_exponent (le_trans (by norm_num [binary32]) (abs_div_340_lower (by omega)))
    obtain ⟨j, hj⟩ := Int.eq_ofNat_of_zero_le
      (show 0 ≤ 1 - (roundTo binary32 ⟨r + 12325, 340⟩).exponent by linarith [exact_exponent_le hr])
    have hnear : ∀ m : ℤ, |((r + 12325 : ℤ) : ℚ) / 340 - (roundTo binary64 (tempSum binary64 r)).toRat| <
        |((r + 12325 : ℤ) : ℚ) / 340 - m * 2 ^ ((roundTo binary32 ⟨r + 12325, 340⟩).exponent - 1)| := by
      intro m
      rw [show (roundTo binary32 ⟨r + 12325, 340⟩).exponent - 1 = (-j : ℤ) by omega, abs_sub_comm]
      refine (binary64_error hr).trans_le (le_trans ?_ (div_340_far_from_grid hdvd' m j))
      have hpow : (2 : ℚ) ^ j ≤ 2 ^ 33 := pow_le_pow_right₀ one_le_two (by omega)
      exact one_div_le_one_div_of_le (by positivity) (by norm_num at hpow ⊢; linarith)
    have hrounds := roundTo_roundsTo binary32 hden
    rw [Rounded.value_toRat] at hrounds
    exact congrArg Rounded.bits32 (hrounds.unique (hexact.of_near hnear))

/-- The stepwise sum is zero or far above binary32's least normal number: where the exact sum is zero the quotient is exact. -/
theorem normalRange_tempSum : NormalRange (tempSum binary32 r).toRat := by
  by_cases hzero : r + 12325 = 0
  · refine .inl ?_
    rw [tempSum_of_dvd hr (by omega) (by decide) (by decide), hzero]
    simp
  · have hexact := abs_div_340_lower hzero
    have herror := tempSum_error (f := binary32) hr (by decide)
    have htriangle := abs_sub_abs_le_abs_sub (((r + 12325 : ℤ) : ℚ) / 340) (tempSum binary32 r).toRat
    rw [abs_sub_comm] at htriangle
    refine .inr ⟨?_, (tempSum_abs_lt hr (by decide) (by decide)).trans (by norm_num)⟩
    norm_num [binary32] at herror hexact htriangle ⊢
    linarith

end

/-! ### The obligations on conversions -/

/-- Settles O38: each right-hand side is an integer of at most 24 bits over a power of two. -/
theorem linearConversionsAreExact : Obligations.LinearConversionsAreExact := by
  intro r
  have hlow := BitVec.le_toInt r
  have hhigh := BitVec.toInt_lt (x := r)
  obtain ⟨hgyro, hgyroValue⟩ := fl32_exact (num := r.toInt * 2000) (m := r.toInt * 125) (den := 32768) (j := 11)
    (by decide) (by rw [abs_lt]; omega) (by decide) (by push_cast; ring)
  obtain ⟨hangle, hangleValue⟩ := fl32_exact (num := r.toInt * 180) (m := r.toInt * 45) (den := 32768) (j := 13)
    (by decide) (by rw [abs_lt]; omega) (by decide) (by push_cast; ring)
  obtain ⟨hacc, haccValue⟩ := fl32_exact (num := r.toInt * 16) (m := r.toInt) (den := 32768) (j := 11)
    (by decide) (by rw [abs_lt]; omega) (by decide) (by push_cast; ring)
  obtain ⟨hmag, hmagValue⟩ := fl32_exact (num := r.toInt) (m := r.toInt) (den := 1) (j := 0)
    (by decide) (by rw [abs_lt]; omega) (by decide) (by push_cast; ring)
  exact ⟨hgyro, hgyroValue, hangle, hangleValue, hacc, haccValue, hmag, by rwa [Nat.cast_one, mul_one] at hmagValue⟩

/-- Settles O40: rounding to binary64 on the way is innocuous, and the two orders round values a quarter of a unit apart. -/
theorem temperatureConversionRoundsAsItsOrderSays : Obligations.TemperatureConversionRoundsAsItsOrderSays := by
  intro raw
  have hr : |raw.toInt| ≤ 2 ^ 15 := by
    have hlow := BitVec.le_toInt raw
    have hhigh := BitVec.toInt_lt (x := raw)
    rw [abs_le]
    omega
  generalize raw.toInt = r at hr
  have hexact := roundsTo_div_340 binary32 (r + 12325)
  have hexactRange := normalRange_div_340 (abs_raw_add_offset_le hr)
  have hquotient := roundsTo_div_340 binary32 r
  have hquotientRange := normalRange_div_340 (hr.trans (by decide))
  have hsum := roundsTo_tempSum binary32 binary32 r
  have hsumRange := normalRange_tempSum hr
  rw [tempConv_f64ThenF32_eq hr, tempConv_f32Stepwise]
  refine ⟨rfl, hexact.roundedWord hexactRange (by decide) (by norm_num), hquotient.roundedWord hquotientRange (by decide)
    (by norm_num), hsum.roundedWord hsumRange (by positivity) ?_, ?_⟩
  · rw [tempSum_toRat]
    push_cast
    rw [fl32, (hquotient.encodes hquotientRange).numerator]
    ring
  · have hclose : |_ - _| ≤ (2 : ℚ) ^ (-16 : ℤ) := hsum.toRat_close hexact
      (tempSum_exponent_le hr (by decide) (by decide) (by decide)) (exact_exponent_le hr)
      ((tempSum_error hr (by decide)).trans (by norm_num [binary32]))
    have hscale : (2 : ℚ) ^ (-16 : ℤ) * 2 ^ 149 = 2 ^ 133 := by norm_num
    have hdistance := mul_le_mul_of_nonneg_right hclose (by positivity : (0 : ℚ) ≤ 2 ^ 149)
    rw [abs_sub_mul_of_pos (by positivity), ← (hsum.encodes hsumRange).numerator,
      ← (hexact.encodes hexactRange).numerator, hscale] at hdistance
    rw [← Int.ofNat_le, Int.natCast_natAbs]
    exact_mod_cast hdistance

/-- Settles O39: R171's table, evaluated. -/
theorem convertedRangeEnds : Obligations.ConvertedRangeEnds := by
  refine ⟨by decide, by decide, by decide, by decide, by decide, by decide, by decide, by decide, fun order => ?_⟩
  cases order with
  | f32Stepwise => decide
  | f64ThenF32 => decide

end Sys2Proof.Machine
end

/-! ## The family of 42_command_encoder.md: issue steps, the sequencer's steps, how a pending sequence ends (R190 to R210) -/

section
namespace Sys2Proof.Machine

/-! ### The issue step (R190, R193) -/

section
variable {s : State} {op : ConfigOp} {reg : Byte} {data : Half} {ok : Bool}

theorem State.busy_iff (s : State) :
    s.live = false ∨ s.cePhase ≠ .idle ↔ s.created = false ∨ s.enabled = false ∨ s.cePhase ≠ .idle := by
  rw [State.live, Bool.and_eq_false_iff, or_assoc]

theorem State.configure_of_busy (h : s.live = false ∨ s.cePhase ≠ .idle) :
    s.configure op reg data ok = s.answered codeState := by
  rcases s.configure_cases op reg data ok with ⟨-, heq⟩ | ⟨hlive, hidle, -⟩ | ⟨hlive, hidle, -⟩ | ⟨hlive, hidle, -⟩
  · exact heq
  all_goals simp [hlive, hidle] at h

theorem State.configure_of_outOfRange (hlive : s.live = true) (hidle : s.cePhase = .idle) :
    s.configure op reg data false = s.answered codeParam := by
  simpa [hlive, hidle] using s.configure_cases op reg data false

theorem State.configure_of_fail (hlive : s.live = true) (hidle : s.cePhase = .idle) {n : Fin 6}
    (hfail : s.nextTxAnswer = .fail n) :
    s.configure op reg data true = s.sent unlockFrame [.result codeTransport] := by
  simpa [hlive, hidle, hfail] using s.configure_cases op reg data true

theorem State.configure_of_ok (hlive : s.live = true) (hidle : s.cePhase = .idle) (hok : s.nextTxAnswer = .ok) :
    s.configure op reg data true = (s.sent unlockFrame []).startSequence op (writeFrame reg data) := by
  simpa [hlive, hidle, hok] using s.configure_cases op reg data true

end

/-- An instruction whose meaning is CONFIGURE with its register, data value and range test follows R190's rule. -/
theorem configurationOperation_of_configure {i : Instr} {op : ConfigOp} {reg : Params → Byte} {dl dh : Byte} {inRange : Prop}
    {data : Half} {ok : Bool} (hexec : ∀ s, exec i s = .next (s.configure op (reg s.params) data ok))
    (hok : ok = true ↔ inRange) (hframe : inRange → ∀ addr, writeFrame addr data = ⟨0xFF, 0xAA, addr, dl, dh⟩) :
    ConfigurationOperation i op reg dl dh inRange := by
  intro s
  rw [hexec]
  refine ⟨fun hbusy => ?_, fun hcreated henabled hidle hout => ?_, fun hcreated henabled hidle hin n hfail => ?_,
    fun hcreated henabled hidle hin hsent => ?_⟩
  · rw [State.configure_of_busy (s.busy_iff.2 hbusy)]
    rfl
  · obtain rfl : ok = false := Bool.eq_false_iff.2 (mt hok.1 hout)
    rw [State.configure_of_outOfRange (s.live_iff.2 ⟨hcreated, henabled⟩) hidle]
    rfl
  · obtain rfl : ok = true := hok.2 hin
    rw [State.configure_of_fail (s.live_iff.2 ⟨hcreated, henabled⟩) hidle hfail]
    rfl
  · obtain rfl : ok = true := hok.2 hin
    rw [State.configure_of_ok (s.live_iff.2 ⟨hcreated, henabled⟩) hidle hsent, hframe hin]
    rfl

/-- A setter's operand, in a range below 256, is its data value (R99). -/
theorem configurationOperation_of_operand {i : Instr} {op : ConfigOp} {reg : Params → Byte} {inRange : Prop} {w : Word}
    {ok : Bool} (hexec : ∀ s, exec i s = .next (s.configure op (reg s.params) (w.setWidth 16) ok))
    (hok : ok = true ↔ inRange) (hbyte : inRange → w.toNat < 256) :
    ConfigurationOperation i op reg (BitVec.ofNat 8 w.toNat) 0 inRange :=
  configurationOperation_of_configure hexec hok fun hin addr => by
    rw [BitVec.ofNat_toNat]
    exact writeFrame_setWidth (hbyte hin) addr

/-! ### READ_REG (R205) -/

theorem State.requestRead_of_busy {s : State} (h : s.live = false ∨ s.cePhase ≠ .idle) (addr : Word) :
    s.requestRead addr = s.answered codeState := by
  rcases s.requestRead_cases addr with ⟨-, heq⟩ | ⟨hlive, hidle, -⟩ | ⟨hlive, hidle, -⟩
  · exact heq
  all_goals simp [hlive, hidle] at h

theorem State.requestRead_of_idle {s : State} (hlive : s.live = true) (hidle : s.cePhase = .idle) (addr : Word) :
    s.requestRead addr =
      if addr.toNat ≤ 0xFF then
        s.sent ⟨0xFF, 0xAA, 0x27, BitVec.ofNat 8 addr.toNat, 0x00⟩
          [.result (if s.nextTxAnswer = .ok then codeOk else codeTransport)]
      else s.answered codeParam := by
  rw [BitVec.ofNat_toNat, ← readRequestFrame_eq]
  rcases s.requestRead_cases addr with ⟨hbusy, -⟩ | ⟨-, -, hout, heq⟩ | ⟨-, -, hin, heq⟩
  · simp [hlive, hidle] at hbusy
  · rw [heq, if_neg (of_decide_eq_false hout)]
  · rw [heq, if_pos (of_decide_eq_true hin)]

/-! ### What an instruction leaves of a pending sequence (R208, R210) -/

theorem SameSequencer.trans {s t u : State} (h : SameSequencer s t) (k : SameSequencer t u) : SameSequencer s u := by
  simp_all [SameSequencer]

/-- CREATE is rejected in a created block, and an issue step while a sequence is pending. -/
theorem InstrWrite.sequencer_kept {i : Instr} {s t : State} (h : InstrWrite s i t) (hcreated : s.created = true)
    (hpending : s.cePhase ≠ .idle) : SameSequencer s t := by
  cases h with
  | create tp timeout huncreated => exact nomatch huncreated.symm.trans hcreated
  | issue op c _ hidle => exact absurd hidle hpending
  | ingest data => exact (State.feedBytes_keeps data s).sequencer
  | _ => exact ⟨rfl, rfl, rfl, rfl⟩

theorem exec_keeps_sequencer {i : Instr} {s t : State} (hcreated : s.created = true) (hpending : s.cePhase ≠ .idle)
    (h : exec i s = .next t) : SameSequencer s t := by
  obtain ⟨u, hsu, hut⟩ := exec_writes h
  obtain ⟨-, -, -, -, hkept⟩ := hut.registers
  exact (hsu.sequencer_kept hcreated hpending).trans hkept

/-! ### The sequencer's steps (R190, R192) -/

/-- The settle wait of the phase has passed. -/
theorem State.sequencerEnabled_iff {s : State} {wait : Nat} (h : s.settleWait = some wait) :
    s.sequencerEnabled = true ↔ wait ≤ (s.now - s.ceT0).toNat := by
  rw [State.sequencerEnabled, h]
  exact decide_eq_true_iff

section
variable {s : State}

theorem State.settleWait_of_waitUnlock (h : s.cePhase = .waitUnlock) : s.settleWait = some s.params.settleUnlock := by
  simp [State.settleWait, h]

theorem State.settleWait_of_waitWrite (h : s.cePhase = .waitWrite) : s.settleWait = some s.params.settleWrite := by
  simp [State.settleWait, h]

theorem State.settleWait_of_waitSave (h : s.cePhase = .waitSave) : s.settleWait = some s.params.settleSave := by
  simp [State.settleWait, h]

theorem State.sequencerEnabled_of_idle (h : s.cePhase = .idle) : s.sequencerEnabled = false := by
  simp [State.sequencerEnabled, State.settleWait, h]

theorem State.sequencerFrame_of_waitUnlock (h : s.cePhase = .waitUnlock) (henabled : s.sequencerEnabled = true) :
    s.sequencerFrame = some s.ceFrame := by
  simp [State.sequencerFrame, h, henabled]

theorem State.sequencerFrame_of_waitWrite (h : s.cePhase = .waitWrite) (henabled : s.sequencerEnabled = true) :
    s.sequencerFrame = some saveFrame := by
  simp [State.sequencerFrame, h, henabled]

theorem State.sequencerFrame_of_waitSave (h : s.cePhase = .waitSave) : s.sequencerFrame = none := by
  simp [State.sequencerFrame, h]

/-- The frame, then OK: the wait restarts in the next phase. -/
theorem State.transmit_sequencerAdvance_ok (s : State) (c : CmdFrame) :
    (s.transmit c).sequencerAdvance .ok =
      { s.sent c [] with ceT0 := s.now, cePhase := if s.cePhase = .waitUnlock then .waitWrite else .waitSave } := rfl

/-- The frame, then FAIL: the operation ends with `E_TRANSPORT`. -/
theorem State.transmit_sequencerAdvance_fail (s : State) (c : CmdFrame) (n : Fin 6) :
    (s.transmit c).sequencerAdvance (.fail n) = { s.sent c [.done s.ceOp codeTransport] with cePhase := .idle } := by
  simp [State.sequencerAdvance, State.complete, State.emit, State.transmit, State.tookTxAnswer, State.sent]

theorem step_of_waitSave (hagent : s.nextTurn.agent = .sequencer) (hphase : s.beginTurn.cePhase = .waitSave)
    (henabled : s.beginTurn.sequencerEnabled = true) : step s = .next (s.beginTurn.complete codeOk) := by
  rw [step_of_no_sequencerFrame hagent (State.sequencerFrame_of_waitSave hphase), State.sequencerFinish,
    if_pos ⟨henabled, hphase⟩]

/-- Where no step is enabled the sequencer's turn does nothing. -/
theorem step_of_not_sequencerEnabled (hagent : s.nextTurn.agent = .sequencer)
    (hwaits : s.beginTurn.sequencerEnabled = false) : step s = .next s.beginTurn := by
  have hframe : s.beginTurn.sequencerFrame = none := by simp [State.sequencerFrame, hwaits]
  rw [step_of_no_sequencerFrame hagent hframe, State.sequencerFinish, if_neg (by simp [hwaits])]

end

/-! ### Time and turns -/

theorem State.later_now (s : State) (ms : Nat) : (s.later ms).now = s.now + BitVec.ofNat 32 ms :=
  BitVec.ofNat_add s.tAbs ms

theorem State.beginTurn_now (s : State) : s.beginTurn.now = s.now + BitVec.ofNat 32 s.nextTurn.advance :=
  s.later_now s.nextTurn.advance

theorem State.nextTurn_of_scheduled {s : State} {turn : EnvTurn} {turns : List EnvTurn} (h : s.turns = turn :: turns) :
    s.nextTurn = turn := by
  simp [State.nextTurn, h]

theorem State.nextTxAnswer_of_given {s : State} {answer : TxAnswer} {answers : List TxAnswer}
    (h : s.txAnswers = answer :: answers) : s.nextTxAnswer = answer := by
  simp [State.nextTxAnswer, h]

/-- Where the last wait restarted at the time before the turn, what has passed since is the turn's advance. -/
theorem State.beginTurn_elapsed_of_restarted {s : State} (hrestarted : s.ceT0 = s.now)
    (hshort : s.nextTurn.advance < 2 ^ 32) : (s.beginTurn.now - s.beginTurn.ceT0).toNat = s.nextTurn.advance := by
  rw [State.beginTurn_now, State.beginTurn_ceT0, hrestarted, add_sub_cancel_left, BitVec.toNat_ofNat,
    Nat.mod_eq_of_lt hshort]

/-! ### Weak fairness (R192; log 4) -/

theorem State.starved_iff {s : State} (hpending : s.cePhase ≠ .idle) :
    s.starved = true ↔ Config.patience s.txCount ≤ s.skips := by
  simp [State.starved, hpending]

theorem State.nextTurn_of_starved {s : State} (hturns : s.turns = []) (hstarved : s.starved = true) :
    ∃ ms, s.nextTurn = ⟨ms + (s.later ms).waitLeft, .sequencer⟩ :=
  ⟨(Config.freeTurn s.turnCount).advance, by simp [State.nextTurn, hturns, hstarved]⟩

theorem State.later_later (s : State) (a b : Nat) : (s.later a).later b = s.later (a + b) := by
  simp [State.later, Nat.add_assoc]

/-- A pending sequence has a settle wait, within R7's bound. -/
theorem State.settleWait_of_pending {s : State} (hpending : s.cePhase ≠ .idle) (hwf : s.params.wf) :
    ∃ wait, s.settleWait = some wait ∧ wait ≤ 999 := by
  obtain ⟨-, hunlock, -, hwrite, -, hsave, -⟩ := hwf
  cases hphase : s.cePhase with
  | idle => exact absurd hphase hpending
  | waitUnlock => exact ⟨_, State.settleWait_of_waitUnlock hphase, hunlock⟩
  | waitWrite => exact ⟨_, State.settleWait_of_waitWrite hphase, hwrite⟩
  | waitSave => exact ⟨_, State.settleWait_of_waitSave hphase, hsave⟩

/-- Once what is left of the wait has passed, the step is enabled: the wait is far below the clock's 2^32 ms. -/
theorem State.sequencerEnabled_after_waitLeft {s : State} (hpending : s.cePhase ≠ .idle) (hwf : s.params.wf) :
    (s.later s.waitLeft).sequencerEnabled = true := by
  obtain ⟨wait, hwait, hbound⟩ := State.settleWait_of_pending hpending hwf
  have hleft : s.waitLeft = wait - (s.now - s.ceT0).toNat := by rw [State.waitLeft, hwait]; rfl
  rw [State.sequencerEnabled_iff (s := s.later s.waitLeft) hwait, State.later_now, State.later_ceT0, add_sub_right_comm,
    BitVec.toNat_add, BitVec.toNat_ofNat, hleft]
  have hclock := (s.now - s.ceT0).isLt
  omega

theorem State.beginTurn_sequencerEnabled (s : State) :
    s.beginTurn.sequencerEnabled = (s.later s.nextTurn.advance).sequencerEnabled := rfl

theorem State.sequencerEnabled_of_starved {s : State} (hturns : s.turns = []) (hstarved : s.starved = true)
    (hpending : s.cePhase ≠ .idle) (hwf : s.params.wf) : s.beginTurn.sequencerEnabled = true := by
  obtain ⟨ms, hturn⟩ := State.nextTurn_of_starved hturns hstarved
  rw [State.beginTurn_sequencerEnabled, hturn, ← State.later_later]
  exact State.sequencerEnabled_after_waitLeft hpending hwf

/-- Where ENV's schedule and its patience stand: what the turns still to go by without a step are counted from. -/
structure SameWaiting (s t : State) : Prop where
  turns : t.turns = s.turns
  txCount : t.txCount = s.txCount
  skips : t.skips = s.skips

theorem State.feed_keeps_waiting (s : State) (data : List Byte) : SameWaiting s (s.feed data) := by
  obtain ⟨u, code, hkeeps, hfeed⟩ := s.feed_keeps data
  rw [hfeed]
  exact ⟨hkeeps.turns, hkeeps.txCount, hkeeps.skips⟩

/-- While a sequence is pending no operation of HOST transmits, so `txCount`, from which the patience follows, stays. -/
theorem exec_keeps_waiting {i : Instr} {s t : State} (hi : i.format ≠ .cmd5) (hpending : s.cePhase ≠ .idle)
    (h : exec i s = .next t) : SameWaiting s t := by
  cases i with
  | create | enable | wdtInit | wdtEnable =>
    cases h
    repeat' split
    all_goals exact ⟨rfl, rfl, rfl⟩
  | wdtCheck =>
    cases h
    split
    · rw [State.recover_eq]
      exact ⟨rfl, rfl, rfl⟩
    · exact ⟨rfl, rfl, rfl⟩
  | get | status => cases h; exact ⟨rfl, rfl, rfl⟩
  | feed | frameAcc | frameGyro | frameAngle | frameMag | frameOther => cases h; exact State.feed_keeps_waiting s _
  | setBaud | setRate | setContent | setBandwidth | accCalStart | accCalStop | magCalStart | magCalStop | manualCalEnter
  | manualCalExit | zeroYaw =>
    cases h
    rw [State.configure_of_busy (.inr hpending)]
    exact ⟨rfl, rfl, rfl⟩
  | readReg addr =>
    cases h
    rw [State.requestRead_of_busy (.inr hpending)]
    exact ⟨rfl, rfl, rfl⟩
  | cmdUnlock | cmdSave | cmdReadReq | cmdWrite => exact absurd rfl hi

section
variable {s : State} {agent : Agent} (hagent : agent ≠ .sequencer)
include hagent

/-- A turn of HOST or the receive context that settles consumes bytes of HOST at most, and answers at most. -/
theorem State.fetch_settled_eq {t : State} (h : s.fetch agent = .settled t) :
    ∃ bytes new, t = { s with hostIn := bytes, out := s.out ++ new } := by
  cases agent with
  | host =>
    simp only [State.fetch, State.fetchHost] at h
    split at h <;> cases h
    · exact ⟨_, _, rfl⟩
    · exact ⟨s.hostIn, [], by simp⟩
  | receive =>
    simp only [State.fetch, State.fetchReceived] at h
    split at h
    · cases h
    · split at h <;> cases h
      exact ⟨s.hostIn, [], by simp⟩
  | sequencer => exact absurd rfl hagent

/-- What HOST and the receive context run, they run in the state with its bytes consumed. -/
theorem State.fetch_run_eq {i : Instr} {before : State} (h : s.fetch agent = .run i before) :
    ∃ host rx, before = { s with hostIn := host, rxIn := rx } := by
  cases agent with
  | host =>
    simp only [State.fetch, State.fetchHost] at h
    split at h <;> cases h
    exact ⟨_, s.rxIn, rfl⟩
  | receive =>
    simp only [State.fetch, State.fetchReceived] at h
    split at h
    · cases h
      exact ⟨s.hostIn, _, rfl⟩
    · split at h <;> cases h
      exact ⟨s.hostIn, _, rfl⟩
  | sequencer => exact absurd rfl hagent

end

/-- What a turn without a step of the pending sequence leaves of it: ENV's schedule and patience where the turn's beginning put
them and, in a created block, the sequencer's registers. -/
def KeepsPending (s t : State) : Prop := SameWaiting s t ∧ (s.created = true → SameSequencer s t)

theorem exec_keepsPending {i : Instr} {s t : State} (hi : i.format ≠ .cmd5) (hpending : s.cePhase ≠ .idle)
    (h : exec i s = .next t) : KeepsPending s t :=
  ⟨exec_keeps_waiting hi hpending h, fun hcreated => exec_keeps_sequencer hcreated hpending h⟩

theorem step_of_other_agent {s t : State} (hpending : s.cePhase ≠ .idle) (hagent : s.nextTurn.agent ≠ .sequencer)
    (h : step s = .next t) : KeepsPending s.beginTurn t := by
  rcases step_cases h with hsettled | ⟨i, before, after, hrun, hexec, rfl⟩
  · obtain ⟨bytes, new, rfl⟩ := State.fetch_settled_eq hagent hsettled
    exact ⟨⟨rfl, rfl, rfl⟩, fun _ => ⟨rfl, rfl, rfl, rfl⟩⟩
  · obtain ⟨hformat, -, -⟩ := State.fetch_run_quiet hagent hrun
    obtain ⟨host, rx, rfl⟩ := State.fetch_run_eq hagent hrun
    rw [State.retire_of_ne_sequencer hagent]
    obtain ⟨⟨hturns, htxCount, hskips⟩, hsequencer⟩ :=
      exec_keepsPending (s := { s.beginTurn with hostIn := host, rxIn := rx }) hformat hpending hexec
    exact ⟨⟨hturns, htxCount, hskips⟩, hsequencer⟩

theorem State.passedOver_iff {s : State} (hpending : s.cePhase ≠ .idle) (agent : Agent) :
    s.passedOver agent = true ↔ agent ≠ .sequencer ∨ s.sequencerEnabled = false := by
  simp [State.passedOver, hpending, ← imp_iff_not_or]

theorem step_of_passedOver {s t : State} (hpending : s.cePhase ≠ .idle)
    (hpassed : s.beginTurn.passedOver s.nextTurn.agent = true) (h : step s = .next t) : KeepsPending s.beginTurn t := by
  by_cases hagent : s.nextTurn.agent = .sequencer
  · have hwaits : s.beginTurn.sequencerEnabled = false :=
      ((State.passedOver_iff (s := s.beginTurn) hpending _).1 hpassed).resolve_left (not_not_intro hagent)
    cases h.symm.trans (step_of_not_sequencerEnabled hagent hwaits)
    exact ⟨⟨rfl, rfl, rfl⟩, fun _ => ⟨rfl, rfl, rfl, rfl⟩⟩
  · exact step_of_other_agent hpending hagent h

theorem State.beginTurn_skips_of_passedOver {s : State} (hpassed : s.beginTurn.passedOver s.nextTurn.agent = true) :
    s.beginTurn.skips = s.skips + 1 := by
  rw [State.beginTurn_skips, if_pos hpassed]

/-! ### How a pending sequence ends (R192, R206) -/

/-- How many sequencer steps a phase is from `CE_IDLE`. -/
def CePhase.stepsLeft (p : CePhase) : Nat :=
  match p with
  | .waitUnlock => 3
  | .waitWrite => 2
  | .waitSave => 1
  | .idle => 0

/-- How many turns may go by at most before the pending sequence takes a step: the schedule's, then ENV's patience (log 4). -/
def State.turnsLeft (s : State) : Nat := s.turns.length + (Config.patience s.txCount - s.skips)

/-- What falls with every turn of a pending sequence: the steps to come, and until the next of them the turns. -/
def State.remaining (s : State) : Nat ×ₗ Nat := toLex (s.cePhase.stepsLeft, s.turnsLeft)

/-- While ENV's patience lasts a turn uses it up, once the schedule is empty; and when it is over no turn passes over. -/
theorem SameWaiting.turnsLeft_lt {s t : State} (h : SameWaiting s.beginTurn t) (hpending : s.cePhase ≠ .idle)
    (hwf : s.params.wf) (hpassed : s.beginTurn.passedOver s.nextTurn.agent = true) : t.turnsLeft < s.turnsLeft := by
  have hskips := h.skips.trans (State.beginTurn_skips_of_passedOver hpassed)
  rw [State.turnsLeft, State.turnsLeft, h.turns, h.txCount, hskips, State.beginTurn_turns, State.beginTurn_txCount]
  cases hturns : s.turns with
  | nil =>
    have hpatient : ¬Config.patience s.txCount ≤ s.skips := by
      intro hover
      have hstarved := (State.starved_iff hpending).2 hover
      obtain ⟨ms, hturn⟩ := State.nextTurn_of_starved hturns hstarved
      have henabled := State.sequencerEnabled_of_starved hturns hstarved hpending hwf
      simp [State.passedOver_iff (s := s.beginTurn) hpending, hturn, henabled] at hpassed
    simp only [List.tail_nil, List.length_nil]
    omega
  | cons turn turns =>
    simp only [List.tail_cons, List.length_cons]
    omega

/-- A pending operation's results (R206). -/
def DoneCode (code : Word) : Prop := code = codeOk ∨ code = codeTransport

/-- From `s` to `t` the event `Done` was put out for the operation of `s`, with one of its results, and the
sequencer is idle. -/
def DoneBetween (s t : State) : Prop :=
  t.cePhase = .idle ∧ ∃ code, DoneCode code ∧ .done s.ceOp code ∈ t.out.drop s.out.length

theorem DoneBetween.of_append {s t : State} {before : List Output} {code : Word} (hidle : t.cePhase = .idle)
    (hcode : DoneCode code) (hout : t.out = s.out ++ (before ++ [.done s.ceOp code])) : DoneBetween s t :=
  ⟨hidle, code, hcode, by simp [hout]⟩

/-- What is put out after a later state is put out after an earlier one. -/
theorem DoneBetween.of_later {s u t : State} (h : DoneBetween u t) (hop : u.ceOp = s.ceOp) (hout : s.out <+: u.out) :
    DoneBetween s t := by
  obtain ⟨hidle, code, hcode, hmem⟩ := h
  exact ⟨hidle, code, hcode, hop ▸ List.drop_subset_drop_left t.out hout.length_le hmem⟩

/-- A turn brings a pending sequence nearer to its end: fewer steps are left, or as many and fewer turns until the next. -/
def NearerToDone (s t : State) : Prop := t.cePhase ≠ .idle ∧ t.ceOp = s.ceOp ∧ t.remaining < s.remaining

/-- The pending sequence has taken a step and goes on. -/
def TookStep (s t : State) : Prop :=
  t.cePhase ≠ .idle ∧ t.ceOp = s.ceOp ∧ t.cePhase.stepsLeft < s.cePhase.stepsLeft

theorem TookStep.nearerToDone {s t : State} (h : TookStep s t) : NearerToDone s t := by
  obtain ⟨hpending, hop, hsteps⟩ := h
  exact ⟨hpending, hop, Prod.Lex.toLex_lt_toLex.2 (.inl hsteps)⟩

/-- The transmit request of step 1 or 2, answered. -/
theorem State.sequencerAdvance_outcome {s : State} {c : CmdFrame} (hframe : s.sequencerFrame = some c) (answer : TxAnswer) :
    TookStep s ((s.transmit c).sequencerAdvance answer) ∨ DoneBetween s ((s.transmit c).sequencerAdvance answer) := by
  cases answer with
  | fail n =>
    rw [State.transmit_sequencerAdvance_fail]
    exact .inr (.of_append (before := [_]) rfl (.inr rfl) rfl)
  | ok =>
    left
    rw [State.transmit_sequencerAdvance_ok]
    rcases State.sequencerFrame_cases hframe with ⟨hphase, -⟩ | ⟨hphase, -⟩
    · exact ⟨by simp [hphase], rfl, by simp [hphase, CePhase.stepsLeft]⟩
    · exact ⟨by simp [hphase], rfl, by simp [hphase, CePhase.stepsLeft]⟩

theorem State.cePhase_of_enabled_without_frame {s : State} (henabled : s.sequencerEnabled = true)
    (hframe : s.sequencerFrame = none) : s.cePhase = .waitSave := by
  cases hphase : s.cePhase with
  | idle => simp [State.sequencerEnabled_of_idle hphase] at henabled
  | waitUnlock => simp [State.sequencerFrame_of_waitUnlock hphase henabled] at hframe
  | waitWrite => simp [State.sequencerFrame_of_waitWrite hphase henabled] at hframe
  | waitSave => rfl

theorem step_of_sequencerEnabled {s t : State} (hagent : s.nextTurn.agent = .sequencer)
    (henabled : s.beginTurn.sequencerEnabled = true) (h : step s = .next t) :
    TookStep s t ∨ DoneBetween s t := by
  cases hframe : s.beginTurn.sequencerFrame with
  | none =>
    have hphase := State.cePhase_of_enabled_without_frame henabled hframe
    cases h.symm.trans (step_of_waitSave hagent hphase henabled)
    exact .inr (.of_append (before := []) rfl (.inl rfl) rfl)
  | some c =>
    cases h.symm.trans (step_of_sequencerFrame hagent hframe)
    exact State.sequencerAdvance_outcome hframe _

/-- Every turn of a pending sequence, whoever's it is, brings it nearer to its end or ends it. -/
theorem step_of_pending {s t : State} (hs : s.Inv) (hpending : s.cePhase ≠ .idle) (h : step s = .next t) :
    NearerToDone s t ∨ DoneBetween s t := by
  by_cases hpassed : s.beginTurn.passedOver s.nextTurn.agent = true
  · left
    obtain ⟨hwaiting, hkept⟩ := step_of_passedOver hpending hpassed h
    obtain ⟨hphase, -, -, hop⟩ := hkept (hs.phase.resolve_left hpending)
    have hturns := hwaiting.turnsLeft_lt hpending hs.params hpassed
    exact ⟨by rwa [hphase], hop, Prod.Lex.toLex_lt_toLex.2 (.inr ⟨congrArg CePhase.stepsLeft hphase, hturns⟩)⟩
  · rw [State.passedOver_iff (s := s.beginTurn) hpending, not_or, not_not, Bool.not_eq_false] at hpassed
    obtain ⟨hagent, henabled⟩ := hpassed
    exact (step_of_sequencerEnabled hagent henabled h).imp_left TookStep.nearerToDone

/-! ### Runs -/

theorem step_next (s : State) : ∃ t, step s = .next t := by
  cases hfetch : s.beginTurn.fetch s.nextTurn.agent with
  | settled t => exact ⟨t, step_of_fetch_settled hfetch⟩
  | run i before =>
    obtain ⟨t, hexec⟩ := exec_next i before
    exact ⟨t.retire s.nextTurn.agent before, by simp [step, hfetch, hexec]⟩

theorem core_run_succ {s t : State} (h : step s = .next t) (k : Nat) : core.run (k + 1) s = core.run k t := by
  have hstep : core.step s = .next t := h
  simp only [Host.Core.run, hstep]

theorem core_run_one {s t : State} (h : step s = .next t) : core.run 1 s = .next t := core_run_succ h 0

/-- By induction on what remains: each step either ends the sequence or leaves less of it. -/
theorem State.run_ends {s : State} (hs : s.Inv) (hpending : s.cePhase ≠ .idle) :
    ∃ (k : Nat) (t : State), core.run k s = .next t ∧ DoneBetween s t := by
  generalize hremaining : s.remaining = remaining
  induction remaining using WellFoundedLT.induction generalizing s with
  | ind remaining ih =>
    subst hremaining
    obtain ⟨u, hstep⟩ := step_next s
    rcases step_of_pending hs hpending hstep with ⟨hpending', hop, hless⟩ | hdone
    · obtain ⟨k, t, hrun, hdone⟩ := ih _ hless (stepKeepsTheInvariant s u hs hstep) hpending' rfl
      obtain ⟨-, -, ⟨new, hout⟩, -⟩ := historyOnlyGrows s u hstep
      exact ⟨k + 1, t, (core_run_succ hstep k).trans hrun, hdone.of_later hop ⟨new, hout.symm⟩⟩
    · exact ⟨1, u, core_run_one hstep, hdone⟩

/-- A step of the sequencer that sent `c` with the answer OK, and went on to wait in `phase` (R190). -/
structure SentOk (s t : State) (c : CmdFrame) (phase : CePhase) : Prop where
  step : step s = .next t
  cePhase : t.cePhase = phase
  restarted : t.ceT0 = t.now
  turns : t.turns = s.turns.tail
  txAnswers : t.txAnswers = s.txAnswers.tail
  tAbs : t.tAbs = s.tAbs + s.nextTurn.advance
  out : t.out = s.out ++ [.tx c s.respTimeout .ok]
  respTimeout : t.respTimeout = s.respTimeout
  ceOp : t.ceOp = s.ceOp
  params : t.params = s.params

theorem SentOk.of_step {s : State} {c : CmdFrame} {phase : CePhase} (hok : s.beginTurn.nextTxAnswer = .ok)
    (h : Machine.step s = .next { s.beginTurn.sent c [] with ceT0 := s.beginTurn.now, cePhase := phase }) :
    ∃ t, SentOk s t c phase :=
  ⟨_, { step := h, cePhase := rfl, restarted := rfl, turns := rfl, txAnswers := rfl, tAbs := rfl
        out := by simp [State.sent, hok], respTimeout := rfl, ceOp := rfl, params := rfl }⟩

/-! ### The obligations -/

/-- Settles O19: no rule that writes the sequencer's registers applies in a created block with a sequence pending. -/
theorem noInstructionDisturbsAPendingSequence : Obligations.NoInstructionDisturbsAPendingSequence :=
  fun _ _ _ hcreated hpending hexec => exec_keeps_sequencer hcreated hpending hexec

/-- Settles O51: each setter is CONFIGURE with its operand as the data value, which its range keeps within a byte. -/
theorem settersFollowTheirRules : Obligations.SettersFollowTheirRules := by
  intro w
  refine ⟨?_, ?_, ?_, ?_⟩
  · exact configurationOperation_of_operand (ok := baudOk w) (fun _ => rfl) decide_eq_true_iff (by omega)
  · exact configurationOperation_of_operand (ok := rateOk w) (fun _ => rfl) decide_eq_true_iff (by omega)
  · exact configurationOperation_of_operand (ok := contentOk w) (fun _ => rfl) decide_eq_true_iff (by omega)
  · exact configurationOperation_of_operand (ok := bandwidthOk w) (fun _ => rfl) decide_eq_true_iff (by omega)

/-- Settles O52: each operation is CONFIGURE with R107's data value and no range to fail. -/
theorem calibrationOperationsFollowTheirRules : Obligations.CalibrationOperationsFollowTheirRules := by
  have hnoRange : true = true ↔ True := by simp
  refine ⟨?_, ?_, ?_, ?_, ?_, ?_, ?_⟩
  · exact configurationOperation_of_configure (data := calAcc) (fun _ => rfl) hnoRange fun _ _ => rfl
  · exact configurationOperation_of_configure (data := calNormal) (fun _ => rfl) hnoRange fun _ _ => rfl
  · exact configurationOperation_of_configure (data := calMag) (fun _ => rfl) hnoRange fun _ _ => rfl
  · exact configurationOperation_of_configure (data := calNormal) (fun _ => rfl) hnoRange fun _ _ => rfl
  · exact configurationOperation_of_configure (data := mancalEnter) (fun _ => rfl) hnoRange fun _ _ => rfl
  · exact configurationOperation_of_configure (data := mancalExit) (fun _ => rfl) hnoRange fun _ _ => rfl
  · exact configurationOperation_of_configure (data := yawzeroValue) (fun _ => rfl) hnoRange fun _ _ => rfl

/-- Settles O53: the preconditions in R193's order, then the one request with ENV's answer as the result. -/
theorem readRegFollowsItsRule : Obligations.ReadRegFollowsItsRule := by
  intro addr s
  have hexec : exec (.readReg addr) s = .next (s.requestRead addr) := rfl
  rw [hexec]
  refine ⟨fun hbusy => ?_, fun hcreated henabled hidle hout => ?_, fun hcreated henabled hidle hin => ?_⟩
  · rw [State.requestRead_of_busy (s.busy_iff.2 hbusy)]
    rfl
  · rw [State.requestRead_of_idle (s.live_iff.2 ⟨hcreated, henabled⟩) hidle, if_neg (by omega)]
    rfl
  · rw [State.requestRead_of_idle (s.live_iff.2 ⟨hcreated, henabled⟩) hidle, if_pos hin]
    rfl

/-- Settles O8: the row of the frame is its transmit request, and the step is that request and then the advance. -/
theorem stepRunsTheSequencerFrame : Obligations.StepRunsTheSequencerFrame := by
  intro s t c i hagent hframe hbytes _ hformat hexec
  have hrow : exec i s.beginTurn = .next (s.beginTurn.transmit c) :=
    exec_eq_transmit_of_bytes (rest := []) hformat (by rw [hbytes, List.append_nil]) _
  cases hexec.symm.trans hrow
  exact step_of_sequencerFrame hagent hframe

/-- Settles O55: the enabled step's frame is CE_FRAME, and `sequencerAdvance` goes on by ENV's answer. -/
theorem sequencerSendsTheWriteFrame : Obligations.SequencerSendsTheWriteFrame := by
  rintro s _ hagent rfl hphase hwait
  have henabled := (State.sequencerEnabled_iff (State.settleWait_of_waitUnlock hphase)).2 hwait
  have hstep := step_of_sequencerFrame hagent (State.sequencerFrame_of_waitUnlock hphase henabled)
  refine ⟨fun hok => ?_, fun n hfail => ?_⟩
  · rw [hstep, hok, State.transmit_sequencerAdvance_ok, if_pos hphase]
  · rw [hstep, hfail, State.transmit_sequencerAdvance_fail]
    rfl

/-- Settles O56: the enabled step's frame is SAVE, and `sequencerAdvance` goes on by ENV's answer. -/
theorem sequencerSendsTheSaveFrame : Obligations.SequencerSendsTheSaveFrame := by
  rintro s _ hagent rfl hphase hwait
  have henabled := (State.sequencerEnabled_iff (State.settleWait_of_waitWrite hphase)).2 hwait
  have hstep := step_of_sequencerFrame hagent (State.sequencerFrame_of_waitWrite hphase henabled)
  refine ⟨fun hok => ?_, fun n hfail => ?_⟩
  · rw [hstep, hok, State.transmit_sequencerAdvance_ok, if_neg (by rw [hphase]; nofun)]
    rfl
  · rw [hstep, hfail, State.transmit_sequencerAdvance_fail]
    rfl

/-- Settles O57: step 3 completes with `OK`; in `CE_IDLE` and within a wait no step is enabled. -/
theorem sequencerCompletesAndNeverRunsEarly : Obligations.SequencerCompletesAndNeverRunsEarly := by
  rintro s _ hagent rfl
  refine ⟨fun hphase hwait => ?_, fun hearly => step_of_not_sequencerEnabled hagent ?_⟩
  · rw [step_of_waitSave hagent hphase ((State.sequencerEnabled_iff (State.settleWait_of_waitSave hphase)).2 hwait)]
    rfl
  · have waits {wait : Nat} (hwait : s.beginTurn.settleWait = some wait)
        (hshort : (s.beginTurn.now - s.beginTurn.ceT0).toNat < wait) : s.beginTurn.sequencerEnabled = false :=
      Bool.eq_false_iff.2 (mt (State.sequencerEnabled_iff hwait).1 (Nat.not_le.2 hshort))
    rcases hearly with hidle | ⟨hphase, hshort⟩ | ⟨hphase, hshort⟩ | ⟨hphase, hshort⟩
    · exact State.sequencerEnabled_of_idle hidle
    · exact waits (State.settleWait_of_waitUnlock hphase) hshort
    · exact waits (State.settleWait_of_waitWrite hphase) hshort
    · exact waits (State.settleWait_of_waitSave hphase) hshort

/-- Settles O58: the three enabled steps, each at its turn of the schedule, after a wait that restarted at the step before. -/
theorem pendingSequenceCompletes : Obligations.PendingSequenceCompletes := by
  intro s a b c turns answers hphase hturns hanswers hunlock hwrite hb hsave hc
  have hturn := State.nextTurn_of_scheduled hturns
  have hok : s.beginTurn.nextTxAnswer = .ok := State.nextTxAnswer_of_given hanswers
  obtain ⟨hsends, -⟩ := sequencerSendsTheWriteFrame s _ (by rw [hturn]) rfl hphase
    (by rw [State.beginTurn_now, hturn]; exact hunlock)
  obtain ⟨t, hst⟩ := SentOk.of_step hok (hsends hok)
  have htturn : t.nextTurn = ⟨b, .sequencer⟩ := State.nextTurn_of_scheduled (by rw [hst.turns, hturns]; rfl)
  have htok : t.beginTurn.nextTxAnswer = .ok := State.nextTxAnswer_of_given (by
    rw [State.beginTurn_txAnswers, hst.txAnswers, hanswers]; rfl)
  obtain ⟨htsends, -⟩ := sequencerSendsTheSaveFrame t _ (by rw [htturn]) rfl hst.cePhase (by
    rw [State.beginTurn_elapsed_of_restarted hst.restarted (by rwa [htturn]), htturn, State.beginTurn_params, hst.params]
    exact hwrite)
  obtain ⟨u, htu⟩ := SentOk.of_step htok (htsends htok)
  have huturn : u.nextTurn = ⟨c, .sequencer⟩ := State.nextTurn_of_scheduled (by rw [htu.turns, hst.turns, hturns]; rfl)
  obtain ⟨hfinishes, -⟩ := sequencerCompletesAndNeverRunsEarly u _ (by rw [huturn]) rfl
  have hlast := hfinishes htu.cePhase (by
    rw [State.beginTurn_elapsed_of_restarted htu.restarted (by rwa [huturn]), huturn, State.beginTurn_params, htu.params,
      hst.params]
    exact hsave)
  refine ⟨_, (core_run_succ hst.step 2).trans ((core_run_succ htu.step 1).trans (core_run_one hlast)), rfl, ?_, ?_⟩
  · simp [htu.tAbs, hst.tAbs, hturn, htturn, huturn]
  · simp [htu.out, hst.out, htu.ceOp, hst.ceOp, hst.respTimeout]

/-- Settles O59: a starved sequencer's turn lets the rest of the wait pass, and a turn without a step adds one to the count. -/
theorem patienceBoundsPassedOverSequencerSteps : Obligations.PatienceBoundsPassedOverSequencerSteps := by
  intro s hpending
  refine ⟨fun hturns hover => ?_, fun hturns hover hwf => ?_, fun t hwithout hstep => ?_⟩
  · obtain ⟨ms, hturn⟩ := State.nextTurn_of_starved hturns ((State.starved_iff hpending).2 hover)
    rw [hturn]
  · exact State.sequencerEnabled_of_starved hturns ((State.starved_iff hpending).2 hover) hpending hwf
  · have hpassed := (State.passedOver_iff (s := s.beginTurn) hpending _).2 hwithout
    obtain ⟨hwaiting, -⟩ := step_of_passedOver hpending hpassed hstep
    exact hwaiting.skips.trans (State.beginTurn_skips_of_passedOver hpassed)

/-- Settles O60: every turn leaves less of the pending sequence until it ends. -/
theorem everyIssuedSequenceEnds : Obligations.EveryIssuedSequenceEnds := by
  intro s hs hpending
  obtain ⟨k, t, hrun, hidle, code, hcode, hdone⟩ := State.run_ends hs hpending
  exact ⟨k, t, code, hrun, hidle, hcode, hdone⟩

end Sys2Proof.Machine
end

/-! ## The family of 43_watchdog.md: configuring, arming and checking the watchdog, and how far recoveries are apart (R230 to
R240) -/

section
namespace Sys2Proof.Machine

/-! ### Configuring and arming (R230, R231) -/

theorem exec_wdtInit (timeout : Word) (s : State) :
    exec (.wdtInit timeout) s = .next
      (if s.created then
        if 500 ≤ timeout.toNat ∧ timeout.toNat ≤ 30000 then
          { s with wdTimeout := timeout, wdLast := s.now }.answered codeOk
        else s.answered codeParam
      else s.answered codeState) := by
  have hexec : exec (.wdtInit timeout) s = execWdtInit timeout s := rfl
  rw [hexec, execWdtInit]
  simp only [State.answer_eq_answered, windowOk, Bool.not_eq_true', ← Bool.not_eq_true, ite_not, decide_eq_true_eq]

theorem exec_wdtEnable (flag : Byte) (s : State) :
    exec (.wdtEnable flag) s = .next
      (if s.created then
        if flag = 0 then { s with wdEnabled := false }.answered codeOk
        else { s with wdEnabled := true, wdLast := s.now }.answered codeOk
      else s.answered codeState) := by
  have hexec : exec (.wdtEnable flag) s = execWdtEnable flag s := rfl
  rw [hexec, execWdtEnable]
  simp only [State.answer_eq_answered, flagSet, Bool.not_eq_true', ← Bool.not_eq_true, ite_not, decide_eq_true_eq]

/-! ### The check (R232, R233) -/

theorem State.windowExceeded_iff (s : State) :
    s.windowExceeded = true ↔ s.created = true ∧ s.enabled = true ∧ s.wdEnabled = true ∧
      s.wdTimeout.toNat < (s.now - s.wdLast).toNat := by
  simp only [State.windowExceeded, Bool.and_eq_true, decide_eq_true_eq, and_assoc]
  rfl

theorem exec_wdtCheck_of_exceeded {s : State} (h : s.windowExceeded = true) : exec .wdtCheck s = .next s.recover :=
  congrArg Host.Outcome.next (if_pos h)

theorem exec_wdtCheck_of_not_exceeded {s : State} (h : ¬s.windowExceeded = true) : exec .wdtCheck s = .next s :=
  congrArg Host.Outcome.next (if_neg h)

/-! ### The recovery (R234, R236) -/

/-- The counter's bound is its largest value, so the test of R236 is one for that value. -/
theorem bumpCount_eq (count : Word) : bumpCount count = if count = 0xFFFFFFFF then 0xFFFFFFFF else count + 1 := by
  unfold bumpCount
  by_cases hfull : count = 0xFFFFFFFF
  · rw [if_pos hfull, hfull]
    rfl
  · rw [if_neg hfull, if_pos (by bv_omega)]

theorem State.recover_out (s : State) : s.recover.out = s.out ++ recoveryOutputs s.nextReinitAnswer := by
  rw [State.recover_eq]

theorem State.recover_wdLast (s : State) : s.recover.wdLast = s.now := by
  rw [State.recover_eq]

theorem State.recover_now (s : State) : s.recover.now = s.now := by
  rw [State.recover_eq]
  rfl

theorem trAbort_mem_recoveryOutputs (answer : ReinitAnswer) : .trAbort ∈ recoveryOutputs answer := by
  cases answer <;> exact List.mem_cons_self

/-- A recovery leaves the block created, enabled and armed with the same window. -/
theorem State.recover_keeps_configuration (s : State) :
    s.recover.created = s.created ∧ s.recover.enabled = s.enabled ∧ s.recover.wdEnabled = s.wdEnabled ∧
      s.recover.wdTimeout = s.wdTimeout := by
  rw [State.recover_eq]
  exact ⟨rfl, rfl, rfl, rfl⟩

/-! ### After a recovery (R237) -/

/-- Where the watchdog was stamped `ms` ago, `ms` is what has elapsed. -/
theorem State.later_elapsed_of_stamped {s : State} (hstamped : s.wdLast = s.now) {ms : Nat} (hshort : ms < 2 ^ 32) :
    ((s.later ms).now - (s.later ms).wdLast).toNat = ms := by
  rw [State.later_now, State.later_wdLast, hstamped, add_sub_cancel_left, BitVec.toNat_ofNat, Nat.mod_eq_of_lt hshort]

/-- A recovery restarts the window, and the next check that may recover is more than that window later. -/
theorem State.recover_later_windowExceeded_iff {s : State} (h : s.windowExceeded = true) {ms : Nat} (hshort : ms < 2 ^ 32) :
    (s.recover.later ms).windowExceeded = true ↔ s.wdTimeout.toNat < ms := by
  obtain ⟨hcreated, henabled, harmed, -⟩ := s.windowExceeded_iff.1 h
  obtain ⟨hcreated', henabled', harmed', hwindow⟩ := s.recover_keeps_configuration
  have hstamped : s.recover.wdLast = s.recover.now := by rw [State.recover_wdLast, State.recover_now]
  rw [State.windowExceeded_iff, State.later_elapsed_of_stamped hstamped hshort]
  simp [hcreated', henabled', harmed', hwindow, hcreated, henabled, harmed]

/-! ### The obligations -/

/-- Settles O44: the exceeded window runs RECOVER, whose counter saturates. -/
theorem wdtCheckPastTheWindowRecovers : Obligations.WdtCheckPastTheWindowRecovers := by
  intro s hcreated henabled harmed hpast
  rw [exec_wdtCheck_of_exceeded (s.windowExceeded_iff.2 ⟨hcreated, henabled, harmed, hpast⟩), State.recover_eq, bumpCount_eq]
  rfl

/-- Settles O45: what has elapsed since the recovery's stamp is `d`, and the window is the recovered state's own. -/
theorem recoveriesAreMoreThanAWindowApart : Obligations.RecoveriesAreMoreThanAWindowApart := by
  intro s t d hcreated henabled harmed hpast hcheck hd
  have hexceeded := s.windowExceeded_iff.2 ⟨hcreated, henabled, harmed, hpast⟩
  have hagain := State.recover_later_windowExceeded_iff hexceeded hd
  cases hcheck.symm.trans (exec_wdtCheck_of_exceeded hexceeded)
  refine ⟨fun hwithin => ?_, fun hlonger => ?_⟩
  · exact exec_wdtCheck_of_not_exceeded (mt hagain.1 (Nat.not_lt.2 hwithin))
  · refine ⟨(s.recover.later d).recover, exec_wdtCheck_of_exceeded (hagain.2 hlonger), ?_, ?_⟩
    · rw [State.recover_wdLast, State.later_now, State.recover_now, State.recover_wdLast]
    · rw [State.recover_out (s.recover.later d), State.later_out, List.drop_left]
      exact trAbort_mem_recoveryOutputs _

/-- Settles O41: the created block and then the range, in R230's order. -/
theorem wdtInitFollowsItsRule : Obligations.WdtInitFollowsItsRule := by
  intro timeout s
  rw [exec_wdtInit]
  refine ⟨fun huncreated => ?_, fun hcreated hout => ?_, fun hcreated hlow hhigh => ?_⟩
  · rw [if_neg (Bool.eq_false_iff.1 huncreated)]
    rfl
  · rw [if_pos hcreated, if_neg (by omega)]
    rfl
  · rw [if_pos hcreated, if_pos ⟨hlow, hhigh⟩]
    rfl

/-- Settles O42: arming stamps `WD_LAST`, disarming does not. -/
theorem wdtEnableFollowsItsRule : Obligations.WdtEnableFollowsItsRule := by
  intro flag s
  rw [exec_wdtEnable]
  refine ⟨fun huncreated => ?_, fun hcreated hset => ?_, fun hcreated hclear => ?_⟩
  · rw [if_neg (Bool.eq_false_iff.1 huncreated)]
    rfl
  · rw [if_pos hcreated, if_neg hset]
    rfl
  · rw [if_pos hcreated, if_pos hclear]
    rfl

/-- Settles O43: each of the four cases fails one condition of R232's test. -/
theorem wdtCheckWithinTheWindowDoesNothing : Obligations.WdtCheckWithinTheWindowDoesNothing := by
  intro s hinert
  refine exec_wdtCheck_of_not_exceeded fun hexceeded => ?_
  obtain ⟨hcreated, henabled, harmed, hpast⟩ := s.windowExceeded_iff.1 hexceeded
  rcases hinert with huncreated | hdisabled | hdisarmed | hwithin
  · exact Bool.eq_false_iff.1 huncreated hcreated
  · exact Bool.eq_false_iff.1 hdisabled henabled
  · exact Bool.eq_false_iff.1 hdisarmed harmed
  · exact Nat.not_lt.2 hwithin hpast

end Sys2Proof.Machine
end

/-! ## The family of 44_lifecycle_accessors.md: creating and enabling the block, and reading its registers (R260 to R265) -/

section
namespace Sys2Proof.Machine

/-! ### Creating and enabling (R260, R261) -/

theorem exec_create (tp : Byte) (timeout : Word) (s : State) :
    exec (.create tp timeout) s = .next
      (if s.created then s.answered codeState
      else if tp = 0 then s.answered codeParam
      else (s.initialise timeout).answered codeOk) := by
  have hexec : exec (.create tp timeout) s = execCreate tp timeout s := rfl
  rw [hexec, execCreate]
  simp only [State.answer_eq_answered, flagSet, Bool.not_eq_true', decide_eq_false_iff_not, ne_eq, not_not]

theorem exec_enable (flag : Byte) (s : State) :
    exec (.enable flag) s = .next
      (if s.created then
        if flag = 0 then { s with enabled := false }.clearSnapshot.resetFrame.answered codeOk
        else { s with enabled := true }.answered codeOk
      else s.answered codeState) := by
  have hexec : exec (.enable flag) s = execEnable flag s := rfl
  rw [hexec, execEnable]
  simp only [State.answer_eq_answered, flagSet, Bool.not_eq_true', ← Bool.not_eq_true, ite_not, decide_eq_true_eq]

/-! ### The gate and the accessors (R262 to R265) -/

theorem State.gate_iff (s : State) : s.gate = true ↔ s.created = true ∧ s.enabled = true ∧ s.valid = true := by
  simp only [State.gate, Bool.and_eq_true, and_assoc]

/-- Under the invariant `VALID` alone opens the gate (R264's corner case). -/
theorem State.Inv.gate_eq_valid {s : State} (hs : s.Inv) : s.gate = s.valid := by
  refine Bool.eq_iff_iff.2 (s.gate_iff.trans ⟨fun ⟨_, _, hvalid⟩ => hvalid, fun hvalid => ?_⟩)
  obtain ⟨hcreated, henabled⟩ := hs.valid hvalid
  exact ⟨hcreated, henabled, hvalid⟩

/-- The word GET puts out (R262). -/
def State.getWord (s : State) (sel : Byte) : Word := if s.gate then s.snapshotWord sel else 0

theorem exec_get (sel : Byte) (s : State) :
    exec (.get sel) s = .next { s with out := s.out ++ [.value (s.getWord sel)] } := rfl

theorem exec_status (sel : Byte) (s : State) :
    exec (.status sel) s = .next { s with out := s.out ++ [.value (s.statusWord sel)] } := rfl

/-! ### GET's selectors (30_encoding.md R103) -/

/-- The snapshot registers in the order of R103's table. -/
def State.snapshotRegisters (s : State) : List Word :=
  [s.gyro.x, s.gyro.y, s.gyro.z, s.angle.x, s.angle.y, s.angle.z, s.acc.x, s.acc.y, s.acc.z,
    s.mag.x, s.mag.y, s.mag.z, s.temp, s.version.setWidth 32, s.ts, flagWord s.valid]

theorem State.snapshotWord_of_register (s : State) {sel : Byte} (h : sel.toNat < 0x10) :
    s.snapshotRegisters[sel.toNat]? = some (s.snapshotWord sel) := by
  unfold State.snapshotWord
  generalize sel.toNat = n at h
  interval_cases n <;> rfl

theorem State.snapshotWord_of_reserved (s : State) {sel : Byte} (h : reservedGetSelector sel) : s.snapshotWord sel = 0 := by
  unfold State.snapshotWord
  obtain ⟨k, hk⟩ := Nat.exists_eq_add_of_le' h
  rw [hk]
  rfl

/-! ### STATUS's selectors (30_encoding.md R104) -/

/-- The registers of R104's table before the frame buffer, in its order. -/
def State.statusRegisters (s : State) : List Word :=
  [flagWord s.created, flagWord s.enabled, s.fstate.code, s.cursor.setWidth 32, flagWord s.wdEnabled, s.wdTimeout,
    s.wdLast, s.wdCount, s.respTimeout, s.cePhase.code, flagWord s.valid]

theorem State.statusWord_of_register (s : State) {sel : Byte} (h : sel.toNat ≤ 0x0A) :
    s.statusRegisters[sel.toNat]? = some (s.statusWord sel) := by
  unfold State.statusWord
  generalize sel.toNat = n at h
  interval_cases n <;> rfl

/-- Past `VALID`'s selector only the frame buffer's bytes are named. -/
theorem State.statusWord_of_past_valid (s : State) {sel : Byte} (h : 0x0B ≤ sel.toNat) :
    s.statusWord sel =
      if 0x10 ≤ sel.toNat ∧ sel.toNat ≤ 0x1A then (s.fb.getD (sel.toNat - 0x10) 0).setWidth 32 else 0 := by
  unfold State.statusWord
  obtain ⟨k, hk⟩ := Nat.exists_eq_add_of_le' h
  rw [hk]
  rfl

theorem State.statusWord_of_reserved (s : State) {sel : Byte} (h : reservedStatusSelector sel) : s.statusWord sel = 0 := by
  rw [s.statusWord_of_past_valid (by omega), if_neg (by omega)]

theorem State.statusWord_of_frameByte (s : State) {sel : Byte} (hlow : 0x10 ≤ sel.toNat) (hhigh : sel.toNat ≤ 0x1A) :
    s.statusWord sel = (s.fb.getD (sel.toNat - 0x10) 0).setWidth 32 := by
  rw [s.statusWord_of_past_valid (by omega), if_pos ⟨hlow, hhigh⟩]

/-! ### The obligations -/

/-- Settles O48: the word is zero behind a closed gate, and the table's entry behind an open one. -/
theorem getFollowsItsRule : Obligations.GetFollowsItsRule := by
  intro sel s
  refine ⟨s.getWord sel, exec_get sel s, fun hzero => ?_, fun hcreated henabled hvalid hreg => ?_⟩
  · by_cases hgate : s.gate = true
    · obtain ⟨hcreated, henabled, hvalid⟩ := s.gate_iff.1 hgate
      have hreserved : reservedGetSelector sel := by simpa [hcreated, henabled, hvalid] using hzero
      rw [State.getWord, if_pos hgate, s.snapshotWord_of_reserved hreserved]
    · exact if_neg hgate
  · rw [State.getWord, if_pos (s.gate_iff.2 ⟨hcreated, henabled, hvalid⟩), ← s.snapshotWord_of_register hreg,
      State.snapshotRegisters, hvalid]
    rfl

/-- Settles O49: the three ranges of R104's selectors, without a gate. -/
theorem statusFollowsItsRule : Obligations.StatusFollowsItsRule := by
  intro sel s
  refine ⟨s.statusWord sel, exec_status sel s, fun hreserved => ?_, fun hreg => ?_, fun hlow hhigh => ?_⟩
  · exact s.statusWord_of_reserved hreserved
  · exact s.statusWord_of_register hreg
  · rw [s.statusWord_of_frameByte hlow hhigh, BitVec.toNat_setWidth_of_le (by decide)]

/-- Settles O50: the gate is `VALID`, so what it hides is the flag's own zero. -/
theorem getValidEqualsStatusValid : Obligations.GetValidEqualsStatusValid := by
  intro s hs
  have hword : s.getWord 0x0F = s.statusWord 0x0A :=
    calc s.getWord 0x0F
      _ = if s.valid then flagWord s.valid else 0 := by rw [State.getWord, hs.gate_eq_valid]; rfl
      _ = flagWord s.valid := by cases s.valid <;> rfl
  rw [exec_get, exec_status, hword]

/-- Settles O46: the created block and then TP, in R260's order. -/
theorem createFollowsItsRule : Obligations.CreateFollowsItsRule := by
  intro tp timeout s
  rw [exec_create]
  refine ⟨fun hcreated => ?_, fun huncreated hzero => ?_, fun huncreated hset => ?_⟩
  · rw [if_pos hcreated]
    rfl
  · rw [if_neg (Bool.eq_false_iff.1 huncreated), if_pos hzero]
    rfl
  · rw [if_neg (Bool.eq_false_iff.1 huncreated), if_neg hset]
    rfl

/-- Settles O47: enabling sets the flag, disabling also clears the snapshot and resets the frame state. -/
theorem enableFollowsItsRule : Obligations.EnableFollowsItsRule := by
  intro flag s
  rw [exec_enable]
  refine ⟨fun huncreated => ?_, fun hcreated hset => ?_, fun hcreated hclear => ?_⟩
  · rw [if_neg (Bool.eq_false_iff.1 huncreated)]
    rfl
  · rw [if_pos hcreated, if_neg hset]
    rfl
  · rw [if_pos hcreated, if_pos hclear]
    rfl

end Sys2Proof.Machine
end


/-! ## The family of 60_exceptions.md: no step stops (R300), and a rejected operation does nothing but return its result (R311) -/

section
namespace Sys2Proof.Machine

/-! ### Every step answers -/

theorem step_of_fetch_run_exec {s before t : State} {i : Instr} (hfetch : s.beginTurn.fetch s.nextTurn.agent = .run i before)
    (hexec : exec i before = .next t) : step s = .next (t.retire s.nextTurn.agent before) := by
  simp [step, hfetch, hexec]

/-! ### Rejected or carried out (R301, R311) -/

/-- A result code that rejects nothing. -/
def NotRejecting (code : Word) : Prop := code ≠ codeParam ∧ code ≠ codeState

theorem notRejecting_codeOk : NotRejecting codeOk := ⟨by decide, by decide⟩

theorem notRejecting_codeTransport : NotRejecting codeTransport := ⟨by decide, by decide⟩

/-- An operation from `s` is carried out in `t`: no result it puts out rejects it. -/
def CarriedOut (s t : State) : Prop := ∃ new, t.out = s.out ++ new ∧ ∀ code, .result code ∈ new → NotRejecting code

/-- How an operation from `s` ends in `t`: a rejection returns its code and does nothing else. -/
inductive RejectedOrCarriedOut (s : State) : State → Prop where
  | param : RejectedOrCarriedOut s (s.answered codeParam)
  | state : RejectedOrCarriedOut s (s.answered codeState)
  | carriedOut {t : State} : CarriedOut s t → RejectedOrCarriedOut s t

/-- An operation that does nothing but answer returns that one result. -/
theorem State.eq_of_result_mem_answered {s : State} {returned code : Word} {new : List Output}
    (hout : (s.answered returned).out = s.out ++ new) (hmem : .result code ∈ new) : code = returned := by
  obtain rfl : [.result returned] = new := List.append_cancel_left hout
  simpa using hmem

namespace CarriedOut
variable {s t : State}

theorem of_noResult {new : List Output} (h : t.out = s.out ++ new) (hnew : ∀ code, .result code ∉ new) : CarriedOut s t :=
  ⟨new, h, fun code hmem => absurd hmem (hnew code)⟩

theorem of_out_eq (h : t.out = s.out) : CarriedOut s t :=
  of_noResult (new := []) (by rw [h, List.append_nil]) (by simp)

theorem answered_ok (h : t.out = s.out) : CarriedOut s (t.answered codeOk) := by
  refine ⟨[.result codeOk], by rw [State.answered, h], fun code hmem => ?_⟩
  obtain rfl : code = codeOk := by simpa using hmem
  exact notRejecting_codeOk

theorem sent (s : State) (c : CmdFrame) {more : List Output}
    (hmore : ∀ code, .result code ∈ more → NotRejecting code) : CarriedOut s (s.sent c more) := by
  refine ⟨_, rfl, fun code hmem => hmore code ?_⟩
  simpa using hmem

theorem notRejecting (h : CarriedOut s t) {new : List Output} {code : Word} (hout : t.out = s.out ++ new)
    (hmem : .result code ∈ new) : NotRejecting code := by
  obtain ⟨put, hput, hcodes⟩ := h
  obtain rfl : put = new := List.append_cancel_left (hput.symm.trans hout)
  exact hcodes code hmem

end CarriedOut

namespace RejectedOrCarriedOut

theorem feed (s : State) (data : List Byte) : RejectedOrCarriedOut s (s.feed data) := by
  rcases s.feed_cases data with ⟨-, h⟩ | ⟨-, -, h⟩ | ⟨-, -, h⟩ <;> rw [h]
  · exact .state
  · exact .param
  · exact .carriedOut (.answered_ok (State.feedBytes_keeps data s).out)

theorem configure (s : State) (op : ConfigOp) (reg : Byte) (data : Half) (ok : Bool) :
    RejectedOrCarriedOut s (s.configure op reg data ok) := by
  rcases s.configure_cases op reg data ok with ⟨-, h⟩ | ⟨-, -, -, h⟩ | ⟨-, -, -, -, h⟩ | ⟨-, -, -, -, h⟩ <;> rw [h]
  · exact .state
  · exact .param
  · refine .carriedOut (.sent s _ fun code hmem => ?_)
    obtain rfl : code = codeTransport := by simpa using hmem
    exact notRejecting_codeTransport
  · exact .carriedOut (.of_noResult rfl (by simp))

theorem requestRead (s : State) (addr : Word) : RejectedOrCarriedOut s (s.requestRead addr) := by
  rcases s.requestRead_cases addr with ⟨-, h⟩ | ⟨-, -, -, h⟩ | ⟨-, -, -, h⟩ <;> rw [h]
  · exact .state
  · exact .param
  · refine .carriedOut (.sent s _ fun code hmem => ?_)
    obtain rfl : code = if s.nextTxAnswer = .ok then codeOk else codeTransport := by simpa using hmem
    split
    · exact notRejecting_codeOk
    · exact notRejecting_codeTransport

theorem recover (s : State) : RejectedOrCarriedOut s s.recover := by
  refine .carriedOut (.of_noResult s.recover_out ?_)
  cases s.nextReinitAnswer <;> simp [recoveryOutputs]

end RejectedOrCarriedOut

theorem exec_rejectedOrCarriedOut {i : Instr} {s t : State} (h : exec i s = .next t) : RejectedOrCarriedOut s t := by
  cases i with
  | create | wdtInit =>
    cases h
    split
    · exact .state
    · split
      · exact .param
      · exact .carriedOut (.answered_ok rfl)
  | enable | wdtEnable =>
    cases h
    split
    · exact .state
    · split
      · exact .carriedOut (.answered_ok rfl)
      · exact .carriedOut (.answered_ok rfl)
  | wdtCheck =>
    cases h
    split
    · exact .recover s
    · exact .carriedOut (.of_out_eq rfl)
  | get | status => cases h; exact .carriedOut (.of_noResult rfl (by simp))
  | feed | frameAcc | frameGyro | frameAngle | frameMag | frameOther => cases h; exact .feed s _
  | setBaud | setRate | setContent | setBandwidth => cases h; exact .configure s _ _ _ _
  | accCalStart | accCalStop | magCalStart | magCalStop | manualCalEnter | manualCalExit | zeroYaw =>
    cases h; exact .configure s _ _ _ _
  | readReg addr => cases h; exact .requestRead s addr
  | cmdUnlock | cmdSave | cmdReadReq | cmdWrite => cases h; exact .carriedOut (.sent s _ (by simp))

/-! ### The obligations -/

/-- Settles O15: a turn settles, or runs an instruction, and every instruction answers. -/
theorem everyStepAnswersNext : Obligations.EveryStepAnswersNext := by
  intro s
  cases hfetch : s.beginTurn.fetch s.nextTurn.agent with
  | settled t => exact ⟨t, step_of_fetch_settled hfetch⟩
  | run i before =>
    obtain ⟨t, hexec⟩ := exec_next i before
    exact ⟨_, step_of_fetch_run_exec hfetch hexec⟩

/-- Settles O22: an operation that is carried out puts out neither code, and a rejected one puts out its result alone. -/
theorem rejectionChangesNothing : Obligations.RejectionChangesNothing := by
  intro i s t new code hexec hout hmem hcode
  cases exec_rejectedOrCarriedOut hexec with
  | param | state => rw [State.eq_of_result_mem_answered hout hmem]
  | carriedOut hcarried =>
    obtain ⟨hparam, hstate⟩ := hcarried.notRejecting hout hmem
    exact absurd hcode (not_or.2 ⟨hparam, hstate⟩)

end Sys2Proof.Machine
end

/-! ## The family of 70_reset_and_hazards.md: the registers at power-on (R340) -/

section
namespace Sys2Proof.Machine

/-- Settles O12: the block is uncreated at reset, and R47's part of the invariant gives an uncreated block its POR values. -/
theorem powerOnValues : Obligations.PowerOnValues :=
  have huncreated : State.reset.created = false := rfl
  have hinv : State.reset.Inv := powerOnMeetsTheInvariant
  ⟨huncreated, hinv.uncreated huncreated⟩

end Sys2Proof.Machine
end

/-! ## The family of other rules: HOST's turn while an operation's bytes are missing (30_encoding.md R112; log 10) -/

section
namespace Sys2Proof.Machine

/-- The wait of log 10: no byte is consumed and nothing is answered. -/
theorem State.fetchHost_of_incomplete {s : State} (h : decodeHost s.hostIn = .error .incomplete) :
    s.fetchHost = .settled s := by
  simp [State.fetchHost, h]

/-- Settles O11: ENV's turn brings no byte, so what HOST fetches after it is still incomplete. -/
theorem incompleteOperationWaits : Obligations.IncompleteOperationWaits := by
  intro s hagent hincomplete
  have hdecode : decodeHost s.beginTurn.hostIn = .error .incomplete := by rwa [State.beginTurn_hostIn]
  exact step_of_fetch_settled (by rw [hagent]; exact State.fetchHost_of_incomplete hdecode)

end Sys2Proof.Machine
end
